-- ==== Sys2Proof/Word.lean ====
section
/-!
DEFINITION. Word types of the FQ1024's control space and timeline (R10, R19).
-/
namespace Sys2Proof

/-- One byte of a control-space memory (R10). -/
abbrev Byte := BitVec 8

/-- One 32-bit control-space word (R537). -/
abbrev Word := BitVec 32

/-- A 64-bit time value: TL, a time register, the network clock (R139, R470). -/
abbrev Long := BitVec 64

end Sys2Proof
end

