-- ==== Sys2Proof/Syntax.lean ====
section
/-!
DEFINITION. The commands and events of the FQ1024: one constructor of `Instr` for each row of
spec/opcode_table.json, with the operands that the row's rule gives it.
-/
namespace Sys2Proof

/-- A host command as taken in (R81, R95): queue, sequence number, tag, flags, ARG and payload. -/
structure HostCmd where
  queue : Fin 64
  seq : Word
  tag : Word
  flags : BitVec 16
  arg : Word
  payload : List Byte
  deriving DecidableEq, Repr

/-- The access path of a one-word register write (R538): a WRITE of an Abral queue or a word of the
management SPI. -/
inductive Src where
  | abral (c : HostCmd)
  | spi
  deriving DecidableEq, Repr

/-- How a mode request arrives (R43): a MODE command, a WRITE of `GLOBAL.MODE_REQ`, or the SPI. -/
inductive ReqSrc where
  | modeCmd (c : HostCmd)
  | reg (p : Src)
  deriving DecidableEq, Repr

/-- What an access to a protected memory meets (R264): no error, errors corrected in one word and in `more` others of
it, or an uncorrectable one. -/
inductive Ecc where
  | clean
  | corrected (more : Nat)
  | uncorrectable
  deriving DecidableEq, Repr

/-- The corrected errors that are counted for an access of `n` protected words (R264). -/
def Ecc.fixed (e : Ecc) (n : Nat) : Nat :=
  match e with
  | .corrected more => min (more + 1) n
  | _ => 0

/-- The IP and UDP part of a received frame, as its standards define the fields (R77, R79). -/
structure IpPart where
  v6 : Bool
  src : BitVec 128
  dst : BitVec 128
  irregular : Bool      -- options, fragmentation or an extension header (R79)
  srcPort : BitVec 16
  dstPort : BitVec 16
  checksumZero : Bool
  checksumOk : Bool
  udpLength : Nat       -- bytes of UDP payload
  deriving DecidableEq, Repr

/-- A received Ethernet frame (R73, R77): its header fields, and its bytes without the FCS. -/
structure EthFrame where
  fcsOk : Bool
  length : Nat          -- bytes, FCS included
  dstMac : BitVec 48
  srcMac : BitVec 48
  vlan : List (BitVec 12)
  etherType : BitVec 16
  ip : Option IpPart
  payload : List Byte   -- UDP payload, or what follows the EtherType
  raw : List Byte       -- the frame without its FCS
  deriving DecidableEq, Repr

/-- The container of a firmware image (R425, R513): its plain fields, and whether its ECDSA
signature and its GCM tag verify. -/
structure Image where
  magic : Word
  format : BitVec 16
  stepping : BitVec 16
  level : Word
  sigOk : Bool
  tagOk : Bool
  deriving DecidableEq, Repr

/-- Operands of a Tarfiger arithmetic word (R175): gd, ga, gb, I and IMM. -/
structure Alu where
  gd : Fin 32
  ga : Fin 32
  gb : Fin 32
  useImm : Bool
  imm : Word
  deriving DecidableEq, Repr

/-- Operands of PLAY (R187). -/
structure PlayOp where
  tgt : BitVec 8
  seg : BitVec 16
  fs : Fin 32
  r : Bool
  gs : Fin 32
  deriving DecidableEq, Repr

/-- Operands of CPLAY (R192). -/
structure CplayOp where
  tgt : BitVec 8
  dbit : Fin 8192
  dflt : Bool
  rc : Bool
  pf : Fin 4
  n0 : Bool
  n1 : Bool
  fs0 : Fin 32
  fs1 : Fin 32
  gs : Fin 32
  gp : Fin 32
  deriving DecidableEq, Repr

/-- Operands of FLUX (R188). -/
structure FluxOp where
  tgt : BitVec 8
  seg : BitVec 16
  scale : BitVec 16
  r : Bool
  gs : Fin 32
  deriving DecidableEq, Repr

/-- Operands of PROBE (R189). -/
structure ProbeOp where
  tgt : BitVec 8
  seg : BitVec 16
  fs : Fin 32
  r : Bool
  gs : Fin 32
  ao : Bool
  amp : BitVec 16
  deriving DecidableEq, Repr

/-- Operands of ACQUIRE (R190). -/
structure AcquireOp where
  tgt : BitVec 8
  len : BitVec 14
  recd : Bool
  rd : Bool
  r : Bool
  gs : Fin 32
  deriving DecidableEq, Repr

/-- Operands of the macro-ops (R201): ARG (or N), the first of four registers, IMM. -/
structure MacroOp where
  arg : BitVec 8
  gs : Fin 32
  imm : Word
  deriving DecidableEq, Repr

/-- RDSP layout R (R328). -/
structure RdspR where
  xd : Fin 16
  xs : Fin 16
  i : Bool
  xt : Fin 16
  imm : BitVec 16
  deriving DecidableEq, Repr

/-- RDSP layout A (R328). -/
structure RdspA where
  ad : Fin 4
  src : Fin 4
  x : Fin 16
  sh : Fin 32
  w : Fin 4
  b : Fin 32
  deriving DecidableEq, Repr

/-- RDSP layout M (R328). -/
structure RdspM where
  x : Fin 16
  y : Bool
  pn : Fin 8
  am : Fin 4
  ix : Fin 16
  addr : BitVec 14
  deriving DecidableEq, Repr

/-- RDSP layout P (R328). -/
structure RdspP where
  n : Fin 8
  imm : BitVec 16
  deriving DecidableEq, Repr

/-- RDSP layout B (R328). -/
structure RdspB where
  cond : Fin 16
  r : Bool
  xs : Fin 16
  target : BitVec 14
  deriving DecidableEq, Repr

/-- RDSP layout REP (R328). -/
structure RdspRep where
  r : Bool
  cnt : BitVec 11
  xs : Fin 16
  len : BitVec 13
  deriving DecidableEq, Repr

/-- RDSP layout D (R328): for DST the bit number J is in `dbit[5:0]`. -/
structure RdspD where
  x : Fin 16
  w : Fin 4
  dbit : Fin 8192
  deriving DecidableEq, Repr

/-- RDSP layout IO (R328). -/
structure RdspIo where
  x : Fin 16
  port : BitVec 8
  deriving DecidableEq, Repr

/-- The RDSP parallel format (R327). -/
structure RdspPar where
  mop : Fin 8
  ad : Fin 4
  xs : Fin 8
  xt : Fin 8
  lx : Bool
  dx : Fin 8
  px : Fin 4
  ly : Bool
  dy : Fin 8
  py : Fin 4
  deriving DecidableEq, Repr

/-- A complex sample, as exact integers (R291, R299). -/
structure Cpx where
  re : Int
  im : Int
  deriving DecidableEq, Repr, Inhabited

/-- The classes of output channel with an enable (R55). -/
inductive OutClass where
  | drv | prb | flx | pump
  deriving DecidableEq, Repr

/-- The commands and events of the block, one per row of spec/opcode_table.json. -/
inductive Instr where
  -- power, reset and modes
  | alwaysOnRailValid
  | biasPwrupLoad (bad : BitVec 128)
  | resetNLow
  | railOutOfWindow
  | alwaysOnRailFall
  | resetNRelease (spiBoot : Bool)
  | bootDone (calOk : Bool)
  | bootLoad (image : Image)
  | wdog
  | refclkLoss
  | reboot (src : Src)
  | modeSleep (src : ReqSrc)
  | sleepEntry
  | modeWake (src : ReqSrc)
  | wakeAt
  | wakeComplete
  | modeSafe (src : ReqSrc)
  | start (c : HostCmd)
  | startFrame
  | stop (c : HostCmd)
  | stopFrame
  -- host link and commands
  | receiveFrame (port : Fin 4) (f : EthFrame)
  | ack (queue : Fin 64) (epoch : BitVec 16) (n : Word) (ackValid : Bool)
  | write (c : HostCmd)
  | read (c : HostCmd) (ecc : Ecc)
  | fill (c : HostCmd)
  | streamBlock (c : HostCmd)
  | streamBlockRoom (cl : Fin 16)
  | writePortStore (cl : Fin 16)
  | commit (c : HostCmd)
  | groupCommit
  | fence (c : HostCmd)
  | fenceComplete (queue : Fin 64)
  | pauliUpdate (c : HostCmd)
  | recorderRead (c : HostCmd)
  | recorderClear (c : HostCmd) (sigOk : Bool)
  | recover (c : HostCmd)
  | recoverEffect
  | streamResend (c : HostCmd) (ecc : Ecc)
  | opcodeRefused (c : HostCmd) (opcode queueByte : Byte)
  | ackDelay (queue : Fin 64)
  | cplRto (queue : Fin 64)
  | streamFlush (event : Bool)
  | frameEnd (port : Fin 4)
  | linkDown (port : Fin 4)
  | linkLossSafe (port : Fin 4)
  | portRetrain (src : Src) (v : Word)
  | ipCfgValid (src : Src) (k : Fin 4) (v : Word)
  | clusterFaultClear (src : Src) (v : Word)
  -- Tarfiger instructions
  | nop (q : Fin 128)
  | halt (q : Fin 128)
  | notify (q : Fin 128) (code : Word)
  | jmp (q : Fin 128) (gs : Fin 32) (r : Bool) (addr : BitVec 16)
  | call (q : Fin 128) (gs : Fin 32) (r : Bool) (addr : BitVec 16)
  | ret (q : Fin 128)
  | loop (q : Fin 128) (gs : Fin 32) (r : Bool) (cnt addr : BitVec 16)
  | loopE (q : Fin 128)
  | brg (q : Fin 128) (cond : Fin 16) (addr : BitVec 16)
  | brd (q : Fin 128) (dbit : Fin 8192) (sense rc : Bool) (addr : BitVec 16)
  | brdResolution (q : Fin 128)
  | li (q : Fin 128) (gd : Fin 32) (imm : Word)
  | lui (q : Fin 128) (gd : Fin 32) (imm : BitVec 16)
  | add (q : Fin 128) (o : Alu)
  | sub (q : Fin 128) (o : Alu)
  | and (q : Fin 128) (o : Alu)
  | or (q : Fin 128) (o : Alu)
  | xor (q : Fin 128) (o : Alu)
  | shl (q : Fin 128) (o : Alu)
  | shr (q : Fin 128) (o : Alu) (arith : Bool)
  | mul16 (q : Fin 128) (o : Alu)
  | cmp (q : Fin 128) (o : Alu)
  | lds (q : Fin 128) (gd ga : Fin 32) (imm : Word) (ecc : Ecc)
  | sts (q : Fin 128) (ga gb : Fin 32) (imm : Word)
  | wait (q : Fin 128) (gs : Fin 32) (r : Bool) (n : Word)
  | waituntil (q : Fin 128) (tx : Fin 4)
  | syncr (q : Fin 128)
  | tlget (q : Fin 128) (tx : Fin 4) (src : Fin 4) (gs : Fin 32) (ofs : Word)
  | play (q : Fin 128) (o : PlayOp)
  | cplay (q : Fin 128) (o : CplayOp)
  | flux (q : Fin 128) (o : FluxOp)
  | probe (q : Fin 128) (o : ProbeOp)
  | acquire (q : Fin 128) (o : AcquireOp)
  | mark (q : Fin 128) (tgt : BitVec 8) (width : BitVec 16)
  | setf (q : Fin 128) (tgt : BitVec 8) (fs gs : Fin 32)
  | vz (q : Fin 128) (tgt : BitVec 8) (fs : Fin 32) (r : Bool) (gs : Fin 32) (ph : Word)
  | phrst (q : Fin 128) (tgt : BitVec 8) (fs : Fin 32) (all : Bool)
  | publish (q : Fin 128) (j : Fin 8) (v r : Bool) (gs : Fin 32) (inv : Bool)
  | waitd (q : Fin 128) (dbit : Fin 8192) (rc : Bool)
  | cmt (q : Fin 128) (r : Bool) (gs : Fin 32) (gid : Word)
  | fenceT (q : Fin 128)
  | fenceM (q : Fin 128)
  | fenceD (q : Fin 128)
  | fenceH (q : Fin 128)
  | meas (q : Fin 128) (o : MacroOp)
  | round (q : Fin 128) (o : MacroOp)
  | trackwin (q : Fin 128) (o : MacroOp)
  | ucall (q : Fin 128) (o : MacroOp)
  | undefinedOpcode (q : Fin 128)
  -- event queues
  | eventAccept (cl : Fin 16) (tgt : Fin 228)
  | selectDeadline (cl : Fin 16) (tgt : Fin 228)
  | eventRelease (cl : Fin 16) (tgt : Fin 228) (ecc : Ecc)
  | markerPulseEnd (m : Fin 64)
  | latenessReport (cl : Fin 16)
  -- microengine
  | routineStart (cl : Fin 16) (ecc : Ecc)
  | microword (cl : Fin 16) (w : BitVec 192) (ecc scr : Ecc)
  | restart (cl : Fin 16) (ecc : Ecc)
  | hostCall (src : Src) (cl : Fin 16) (v : Word)
  | controlStoreInstall (src : Src) (w : Fin 16384) (v : Word)
  | programWordInstall (src : Src) (cl : Fin 16) (w : Fin 65536) (v : Word)
  -- outputs, segments, Carafe
  | converterMode (src : Src) (cls : OutClass) (n : Fin 512) (v : Word)
  | modeSettlingEnd (cls : OutClass) (n : Fin 512)
  | channelEnable (src : Src) (cls : OutClass) (n : Fin 512) (v : Word)
  | rangeSettlingEnd (n : Fin 512)
  | granuleFetch (cl : Fin 16) (tgt : Fin 228) (ecc : Ecc)
  | successorSelect (cl : Fin 16) (tgt : Fin 228) (ecc : Ecc)
  | successorStart (cl : Fin 16) (tgt : Fin 228)
  | carafeStop (cl : Fin 16)
  | carafeFlush (src : Src) (cl : Fin 16) (v : Word)
  -- acquisition
  | zone (src : Src) (n : Fin 32) (v : Word)
  | zoneSettlingEnd (n : Fin 32)
  | integrateDump (slot : Fin 1024) (ecc : Ecc)
  | stateCodeWrite (slot : Fin 1024)
  | dbitChangeCoalesced (g : Fin 8)
  | handIn (slot : Fin 1024)
  | chainResetEnd (slot : Fin 1024)
  | detectorBlock (n : Fin 32)
  | detectorRecordCoalesced (n : Fin 32)
  -- RDSP instructions
  | rdspNop (c : Fin 16)
  | rdspHalt (c : Fin 16)
  | waiti (c : Fin 16)
  | ei (c : Fin 16)
  | di (c : Fin 16)
  | rdspLi (c : Fin 16) (o : RdspR)
  | rdspLui (c : Fin 16) (o : RdspR)
  | rdspAdd (c : Fin 16) (o : RdspR)
  | rdspSub (c : Fin 16) (o : RdspR)
  | rdspAnd (c : Fin 16) (o : RdspR)
  | rdspOr (c : Fin 16) (o : RdspR)
  | rdspXor (c : Fin 16) (o : RdspR)
  | rdspShl (c : Fin 16) (o : RdspR)
  | rdspShr (c : Fin 16) (o : RdspR)
  | shrl (c : Fin 16) (o : RdspR)
  | rdspCmp (c : Fin 16) (o : RdspR)
  | pack (c : Fin 16) (o : RdspR)
  | mv (c : Fin 16) (o : RdspR)
  | clr (c : Fin 16) (o : RdspA)
  | mvxa (c : Fin 16) (o : RdspA)
  | stax (c : Fin 16) (o : RdspA)
  | adda (c : Fin 16) (o : RdspA)
  | suba (c : Fin 16) (o : RdspA)
  | sra (c : Fin 16) (o : RdspA)
  | absa (c : Fin 16) (o : RdspA)
  | bita (c : Fin 16) (o : RdspA)
  | ld (c : Fin 16) (o : RdspM) (ecc : Ecc)
  | st (c : Fin 16) (o : RdspM)
  | lp (c : Fin 16) (o : RdspP)
  | lmi (c : Fin 16) (o : RdspP)
  | lml (c : Fin 16) (o : RdspP)
  | mvpx (c : Fin 16) (o : RdspP)
  | br (c : Fin 16) (o : RdspB)
  | rdspCall (c : Fin 16) (o : RdspB)
  | rdspRet (c : Fin 16)
  | reti (c : Fin 16)
  | rep (c : Fin 16) (o : RdspRep)
  | rdspIn (c : Fin 16)
  | dst (c : Fin 16) (o : RdspD)
  | rdd (c : Fin 16) (o : RdspD)
  | res (c : Fin 16)
  | lio (c : Fin 16) (o : RdspIo)
  | sio (c : Fin 16) (o : RdspIo)
  | rdspParallel (c : Fin 16) (o : RdspPar) (ex ey : Ecc)
  | rdspInterrupt (c : Fin 16)
  | mboxIn (src : Src) (c : Fin 16) (v : Word)
  -- Percolator
  | roundBoundary (ecc : Ecc)
  | logicCellEval (i : Fin 1024)
  | pauliClear (src : Src) (v : Word)
  | roundOriginWrite (src : Src) (v : Word)
  | roundLenWrite (src : Src) (v : Word)
  -- capture
  | mergedRecord (n : Fin 32)
  | traceOpen (src : Src) (t : Fin 64) (v : Word)
  | traceClose (src : Src) (t : Fin 64) (v : Word)
  | gap (t : Fin 64)
  | triggerEdge (i : Fin 48) (pos : Fin 16)
  | snapArm (src : Src) (n : Fin 32) (v : Word)
  | snapForce (src : Src) (n : Fin 32) (v : Word)
  | rearmEnd (n : Fin 32)
  | snapshotComplete (n : Fin 32)
  -- trackers
  | trackerQuantum (cl : Fin 16) (trk : Fin 4) (item : Fin 64) (ecc : Ecc)
  | trackerUpdate (cl : Fin 16) (trk : Fin 4) (item : Fin 64)
  -- Gollet and SYNC
  | flitTransmit (p : Fin 8)
  | flitReceive (p : Fin 8) (flit : BitVec 64) (snap : Nat)
  | entryDue (p : Fin 8)
  | portTrain (p : Fin 8) (peerId : BitVec 16) (peerPort : Fin 8) (skip : Fin 33)
  | blockLockLoss (p : Fin 8)
  | cal (src : Src) (p : Fin 8) (v : Word)
  | calDone (p : Fin 8)
  | msgTx (src : Src) (p : Fin 8) (v : Word)
  | msgRxData (src : Src) (p : Fin 8)
  | syncInPulse
  | epochReload
  | syncArm (src : Src) (v : Word)
  | syncGen (src : Src) (v : Word)
  -- network time
  | ptpReceive (port : Fin 4) (f : EthFrame) (pos : Nat)
  | holdoverTimeout
  | servoOffset (src : Src) (v : Word)
  | servoClear (src : Src) (v : Word)
  | resume (src : Src) (v : Word)
  | ntuStep (src : Src) (v : Word)
  | launchArm (src : Src) (i : Fin 64) (v : Word)
  | launchDue (i : Fin 64)
  | pairLatch
  -- bias, NV, thermal, Barista
  | biasTick (b : Fin 64)
  | rangeHoldEnd (b : Fin 64)
  | nvStore (src : Src) (b : Fin 64) (v : Word)
  | nvDieWrite (pageOk : Bool)
  | thermalSample (temps : List Int) (selfFail : BitVec 48)
  | roundMark
  | noSyncr
  | thermShutdown
  | tokenRefill (code : Byte)
  | nvCmd (src : Src) (v : Word)
  | taiRef (src : Src) (v : Word)
  | spiWrite (addr : Word) (words : List Word)
  | spiPostedWord
  | spiRead (addr : Word) (count : Nat) (ecc : Ecc)
  | spiStatus
  | registerWrite (src : Src) (addr : Word) (v : Word)
  | linkUp (port : Fin 4)
  | railValid
  | refclkReturn
  | operatingHoursUpdate
  | tentativeEntryDeadline (cl : Fin 16) (tgt : Fin 228)
  | spiCsNRaise
  deriving DecidableEq, Repr

end Sys2Proof
end

