-- ==== Sys2Proof/Config.lean ====
section
/-!
DEFINITION. What the spec leaves open: opaque values, without a body, so that no statement can rest on
a value of theirs (log entries 8, 9, 10, 11). A value that the spec bounds is an opaque choice within the
bound: an 18-bit value, a 12-bit code, or one of the two units that an exact value lies between.
-/
namespace Sys2Proof.Config

/-- A fresh 32-bit value the spec does not state, drawn with the counter `State.freeCtr`. -/
opaque freeWord : Nat → Word

/-- A fresh 64-bit value: `REC.CLEAR_NONCE` (R532). -/
opaque freeLong : Nat → Long

/-- Whether the signature of a container verifies against the vendor key (R425, R513). -/
opaque signed : List Byte → Bool

/-- Whether the GCM tag of a container verifies with the device-unique key, which no path reads (R425, R512). -/
opaque tagged : List Byte → Bool

/-- Whether the signature of the token of a RECORDER_CLEAR verifies against the recorder authority key (R532). -/
opaque tokenSigned : List Byte → Bool

/-- Byte `i` of the payload of a container, decrypted with the device-unique key (R425). -/
opaque plainByte : List Byte → Nat → Byte

/-- Whether the NV die ends a write in a frame, where R520 bounds its time and does not state it. -/
opaque dieReady : Nat → Bool

/-- The state in which the scrambler of a Gollet lane (twice the port, and the lane) starts when its port trains at a moment,
which R448 does not state. -/
opaque scramblerSeed : Nat → Nat → BitVec 58

/-- Whether a page of the NV die that ends in a frame programs without error (R518, R533). -/
opaque pageGood : Nat → Bool

/-- What a protected memory answers where the block accesses it by itself: memory, word address and frame (log entry 8).
0 and 3 are a clean word, 1 a corrected and 2 an uncorrectable error. -/
opaque eccBits : Nat → Nat → Nat → BitVec 2

/-- Whether the I/O rail is valid while some rail is not: which one it is, is not stated (R49, R54). -/
opaque ioRail : Nat → Bool

/-- In how many words besides one an access meets corrected errors, where it meets such. -/
opaque eccMore : Nat → Nat → Nat → Nat

/-- What an access of word `a` of memory `m` in frame `f` meets (R127, R264). -/
def eccAt (m a f : Nat) : Ecc :=
  match (eccBits m a f).toNat with
  | 1 => .corrected (eccMore m a f)
  | 2 => .uncorrectable
  | _ => .clean

/-- Frames, beyond the first, until a scratch write is visible to the other sequencers (R115: at
most 8 in all). -/
opaque scratchDelay : Nat → Fin 8

/-- An exact value `n / d` narrowed to a whole number where the rounding is not stated: the value itself,
or one of the two it lies between, `up` choosing the upper. -/
def narrow (up : Bool) (n d : Int) : Int := if n % d ≠ 0 ∧ up then n / d + 1 else n / d

/-- Whether a value of the sine (true) or cosine of a 24-bit phase that has no 18 bits is rounded up (R218). -/
opaque generatorUp : BitVec 24 → Bool → Bool

/-- A choice of the interpolation filter's tap at j DAC samples from its centre, in units of 2^−24 (DESIGN CHOICE, log
entry 66), taken where the filter then keeps the bounds of R216. -/
opaque interpolateTap : Fin 97 → Int

/-- The fraction bits of the 40 bits that an IIR section carries (R243); they are not stated. -/
opaque iirPoint : Fin 25

/-- Whether an IIR value that has no 40 bits is rounded up (R243). -/
opaque iirUp : Int → Bool

/-- What an IIR section holds for an exact value outside its 40 bits (R243). -/
opaque iirOver : Int → BitVec 40

/-- An IIR value `n / d`, in units of 2^−40 of a code, in the 40 bits that a section carries (R243). -/
def iirNarrow (n d : Int) : Int :=
  let g : Int := 2 ^ (40 - iirPoint.val)
  let v := narrow (iirUp n) n (d * g)
  (if -(2 ^ 39) ≤ v ∧ v < 2 ^ 39 then v else (iirOver n).toInt) * g

/-- One IIR section step (R243) with ALPHA, BETA, input and state, in units of 2^−40 of a code: the new state
and the output. An input that is the state changes nothing. -/
def iirStep (alpha beta : BitVec 24) (u s : Int) : Int × Int :=
  if u = s then (s, u)
  else
    let t := iirNarrow (s * 2 ^ 24 + alpha.toNat * (u - s)) (2 ^ 24)
    (t, iirNarrow (u * 2 ^ 20 + beta.toInt * (u - t)) (2 ^ 20))

/-- Whether an output of acquisition stage `k` (0 the mix, 1 the CIC decimator, 2 to 4 the half-bands) that is not whole
is rounded up (R291). -/
opaque stageUp : Nat → Int → Bool

/-- An exact output `n / d` of acquisition stage `k` in 18 bits (R291); its rounding is not stated. -/
def stageNarrow (k : Nat) (n d : Int) : Int := max (-131072) (min 131071 (narrow (stageUp k n) n d))

/-- Whether the reference tap of the CIC decimator's 36 is the later of the two in the middle (R290, R292). -/
opaque cicLate : Bool

/-- A choice of tap j + 1 from the centre of half-band stage `k` (1 to 3), in units of 2^−24 (log entry 66), taken
where the stage then keeps the bounds of R291. -/
opaque halfBandTap : Nat → Fin 31 → Int

/-- Whether a channel-FIR output that is not whole is rounded up (R293). -/
opaque firUp : Int → Bool

/-- The channel-FIR output for an exact sum outside 18 bits (R291, R293). -/
opaque firOver : Int → BitVec 18

/-- The 18-bit channel-FIR output for an exact tap sum in units of 1/65,536 (R291, R293); its rounding,
and what it is where the sum has no 18-bit value, are not stated. -/
def firNarrow (n : Int) : Int :=
  let v := narrow (firUp n) n 65536
  if -131072 ≤ v ∧ v ≤ 131071 then v else (firOver n).toInt

/-- Whether an envelope-detector step that is not whole is rounded up (R307). -/
opaque envelopeUp : Nat → Int → Nat → Bool

/-- One envelope-detector step (R307) with TAU, the value with 4 fraction bits and |x|; its rounding
is not stated. -/
def envelopeStep (tau : Nat) (e : Int) (x : Nat) : Int :=
  e + narrow (envelopeUp tau e x) (16 * x - e) (2 ^ tau)

/-- A choice of tap `j` (0 to 15) of phase `p` of the resampler's prototype filter, in units of 2^−24 (log entry 66),
taken where the filter then keeps the bounds of R296. -/
opaque resampleTap : Fin 64 → Fin 16 → Int

/-- What the chain of slot S puts out at tag m while it is not meaningful, as 18-bit values (R297). -/
opaque chainBits : Nat → Nat → BitVec 18 × BitVec 18

/-- What the chain of slot S puts out at tag m while it is not meaningful (R291, R297). -/
def chainNoise (i m : Nat) : Cpx := ⟨(chainBits i m).1.toInt, (chainBits i m).2.toInt⟩

/-- The 12-bit code of input n for play-timeline sample m, where the input lies within the converter's span (R284). -/
opaque adcBits : Nat → Nat → BitVec 12

/-- What converter n gives for play-timeline sample m while it has no power or is not sampling (R54, R59): not stated. -/
opaque adcOff : Nat → Nat → BitVec 12

/-- Whether the input of converter n at play-timeline sample m lies above (1) or below (2) its span (R286). -/
opaque adcSpan : Nat → Nat → BitVec 2

/-- Whether play-timeline sample m of input n is over-range (R286). -/
def adcOver (n m : Nat) : Bool := adcSpan n m == 1 || adcSpan n m == 2

/-- The code of input n for play-timeline sample m: the nearer limit where it is over-range (R284, R286). -/
def adcCode (n m : Nat) : Int :=
  match (adcSpan n m).toNat with
  | 1 => 2047
  | 2 => -2048
  | _ => (adcBits n m).toInt

/-- Whether |z| of a chain output that is not whole is reported one unit up (R307). -/
opaque magnitudeUp : Nat → Bool

/-- |z| of a chain output, within one unit (R307). -/
def magnitude (z : Cpx) : Nat :=
  let n := (z.re * z.re + z.im * z.im).toNat
  let r := Nat.sqrt n
  if r * r ≠ n ∧ magnitudeUp n then r + 1 else r

/-- A sensor's junction temperature in a frame, in 1/16 degree (R502). -/
opaque temperature : Nat → Nat → Int

/-- Whether a time of n picoseconds that is not whole in units of 2^−32 ns is rounded up (R476). -/
opaque picoUp : Nat → Bool

/-- A time of n picoseconds in units of 2^−32 ns (R476); its rounding is not stated. -/
def picoUnits (n : Nat) : Int := narrow (picoUp n) (n * 2 ^ 32) 1000

/-- Where the first bit of frame number n stands, in bytes, of which the offset in its datapath word is the remainder by the
bytes of that word (R476). -/
opaque position : Nat → Nat

/-- `ADDR` of a vendor entry of the entry table as read (R421, R425): the vendor image is not stated. -/
opaque vendorEntry : Nat → BitVec 14

/-- A word of the vendor microcode image (R420, R425): the image is not stated. -/
opaque vendorWord : Nat → BitVec 192

/-- Whether the vendor library of core c is in a stretch that cannot be interrupted (R431). -/
opaque libraryHolds : Nat → Nat → Bool

/-- The slot that `VOICE_STATE.SLOT` names in a frame in which no segment is at the NCO stage, for voice `k`;
it is not stated. -/
opaque idleSlot : Nat → Nat → Fin 32

/-- The identification field of a transmitted IPv4 packet, by opcode and SEQ of its datagram: R79 sets its other
fields. -/
opaque ipId : Nat → Nat → BitVec 16

/-- Whether a difference of timestamps that is not whole in units of 2^−16 ns is rounded up (R480). -/
opaque correctionUp : Int → Bool

/-- A difference of timestamps, in units of 2^−32 ns, narrowed to 2^−16 ns (R480); its rounding is not
stated. -/
def correction (d : Int) : Int := narrow (correctionUp d) d 65536

end Sys2Proof.Config
end

