-- ==== Sys2Proof/Machine/State.lean ====
section
/-!
DEFINITION. The state of the block, as plain data: everything the spec gives the machine, and the
queue of waiting commands. Units of one kind are held sparsely, by number, over a reset value; words of
the control space are held by address over their reset values (Machine/RegMap.lean).
-/
namespace Sys2Proof.Machine

/-- Things of one kind by number, strictly rising; a number not listed holds the kind's reset value. -/
abbrev Sparse (α : Type) := List (Nat × α)

/-- The six modes (R40). -/
inductive Mode where
  | reset | boot | ready | run | sleep | safe
  deriving DecidableEq, Repr

/-- Completion statuses (R101). -/
inductive Status where
  | ok | aborted | staleEpoch | zeroRefused | liveWriteRefused | rangeRefused | modeRefused
  | bootIncomplete | addrRefused | lengthRefused | opcodeRefused | lateStart | authRefused
  | resendExpired | eccUncorr | dirInvalid
  deriving DecidableEq, Repr

/-- Rails, RESET_N and REFCLK (R42, R46 to R51, R548), and whether RESET_N must be cycled (R49). -/
structure Power where
  aon : Bool
  rails : Bool
  resetN : Bool
  refclk : Bool
  mustCycle : Bool
  converters : Bool
  deriving DecidableEq, Repr

/-- Where BOOT stands (R514, R515): step 1 (the ROM, which still accepts BOOT_LOAD), 2 and 3 (firmware
started, host port up), 4 (patches loaded), 5 (READY reached), or 0 before BOOT; and the words and entries of the
vendor microcode image that patches have replaced (R425). `loading` says that the host has begun its BOOT_LOAD in time
and its image is on the way. The step stays as it stands in SAFE (R65). -/
structure Boot where
  step : Nat
  loading : Bool
  words : Sparse (Option (BitVec 192))
  entries : Sparse (Option Word)
  deriving DecidableEq, Repr

/-- The sender of a frame received in bootstrap: its MAC, IP version, IP and UDP port (R78). -/
structure Peer where
  mac : BitVec 48
  v6 : Bool
  ip : BitVec 128
  port : BitVec 16
  deriving DecidableEq, Repr

/-- A command taken in (R86): its opcode, its received QUEUE byte, its fields, its place in the device-wide
order of take-in, and its sender where it came in bootstrap. -/
structure Taken where
  op : Byte
  queueByte : Byte
  cmd : HostCmd
  order : Nat
  peer : Option Peer
  deriving DecidableEq, Repr

/-- A START or STOP accepted and not yet effective (R98, R563). -/
structure Planned where
  frame : Nat
  cmd : Taken
  deriving DecidableEq, Repr

/-- Mode changes under way (R42, R60 to R64, R509): `safeFrame` is the frame in which SAFE or SLEEP muted the
outputs, `recoverFrom` the frame from which RECOVER is accepted, and `moved` the frame in which a wake, a START or a
STOP last changed the mode (R44). `safeFrame` is counted in ticks, and
so are `since`, the begin of the READY and RUN in progress, `ran`, the stretches of READY and RUN before it that the detectors
may still meet (R307), and `slept`, the stretches of SLEEP before this mode. -/
structure Modes where
  sleepAt : Option Nat
  sleepCmd : Option Taken
  wakeAt : Option Nat
  wakers : List Taken
  safeFrame : Nat
  recoverFrom : Nat
  starts : List Planned
  stops : List Planned
  shutdownAt : Option Nat
  shutdownFrom : Nat
  moved : Option Nat
  since : Nat
  ran : List (Nat × Nat)
  slept : List (Nat × Nat)
  deriving DecidableEq, Repr

/-- A completion the host has not acknowledged (R89). -/
structure Completion where
  seq : Word
  cmdSeq : Word
  tag : Word
  opcode : Byte
  status : Status
  payload : List Byte
  epoch : BitVec 16
  sentAt : Nat
  interval : Nat
  resends : Nat
  peer : Option Peer
  deriving DecidableEq, Repr

/-- One command queue (R85 to R90): the next command number expected, the next completion number, what
is taken in, what has started and is not complete, what is unacknowledged, the frame of the oldest
command not acknowledged by the device (R88), the sender of the queue's last frame in bootstrap (R78), and the commands
that entry to SAFE has aborted and whose completions wait until the queue holds fewer than 1,024 (R90, R132). -/
structure HostQ where
  expect : Word
  nextCpl : Word
  waiting : List Taken
  active : List Taken
  unacked : List Completion
  ackFrom : Option Nat
  peer : Option Peer
  aborting : List Taken
  deriving DecidableEq, Repr

/-- What kind of frame waits for the port (R103): its precedence depends on it. -/
inductive TxKind where
  | launch (entry : Nat)
  | stream
  | reply
  | trace
  deriving DecidableEq, Repr

/-- The Ethernet, IP and UDP fields that the device sets in an Abral frame from its registers (R77 to R79); the bytes
that they make are in Machine/Wire.lean. -/
structure NetHeader where
  dstMac : BitVec 48
  srcMac : BitVec 48
  vlan : Option (BitVec 16)
  v6 : Bool
  src : BitVec 128
  dst : BitVec 128
  ttl : Byte
  dscp : BitVec 6
  srcPort : BitVec 16
  dstPort : BitVec 16
  deriving DecidableEq, Repr

/-- A frame for transmission: its network header (none for a launch frame, whose bytes hold it), the Abral
header fields and payload (R81), its bytes on the wire with preamble and gap (R103), and for a stream frame the number
of FENCE.Hs that came before it was formed (R118). -/
structure TxFrame where
  net : Option NetHeader
  kind : TxKind
  queue : Byte
  opcode : Byte
  status : Byte
  flags : BitVec 16
  epoch : BitVec 16
  seq : Word
  ack : Word
  tag : Word
  arg : Word
  payload : List Byte
  wire : Nat
  gen : Nat
  deriving DecidableEq, Repr

/-- One host port (R71, R75, R78, R103): link, frame of link loss, the first frame after bootstrap, frames
waiting, the frame on the wire with the frame it ends in, and the credit of the RESULT and EVENT reservation
with the frame it was counted to. -/
structure Port where
  up : Bool
  downAt : Nat
  filterFrom : Nat
  waiting : List TxFrame
  wire : Option TxFrame
  free : Nat
  credit : Nat
  creditAt : Nat
  deriving DecidableEq, Repr

/-- A RESULT or EVENT stream (R102): its next SEQ, and the records of its partial frame, each with the
frame it was formed in. -/
structure Stream where
  next : Word
  recs : List (Nat × List Byte)
  deriving DecidableEq, Repr

/-- A READ of a waveform slice that captures 384 bytes a frame (R261), or a RECORDER_READ that copies a record a
frame (R531): the next byte or slot, what is left, what it has captured, and the first frame it can go on in. -/
structure ReadJob where
  cmd : Taken
  addr : Nat
  left : Nat
  got : List Byte
  from_ : Nat
  deriving DecidableEq, Repr

/-- Acknowledgement and ordering state of the command unit (R91), the RECOVER pending with the frame it was taken in
(R114), the RECORDER_READs in progress (R531),
the streams and the replay buffer (R104), and whether a FENCE.H was issued in this frame, with the number of frames
that had one (R118). -/
structure HostUnit where
  queues : Sparse HostQ
  ports : Sparse Port
  order : Nat
  lastStart : Option Nat
  lastQueue : Nat
  recover : Option Taken
  recoverAt : Nat
  records : List ReadJob
  result : Stream
  event : Stream
  replay : List TxFrame
  fenceH : Bool
  gen : Nat
  deriving DecidableEq, Repr

/-- A commit not yet effective (R121, R198): its frame, its groups, who asked, and the order of
acceptance. -/
structure PendingCommit where
  frame : Nat
  groups : List Word
  host : Option Taken
  sequencer : Nat
  order : Nat
  deriving DecidableEq, Repr

/-- An entry of a sequencer's stack (R183). -/
inductive StackEntry where
  | call (back : BitVec 16)
  | loop (body closing : BitVec 16) (left : Nat)
  deriving DecidableEq, Repr

/-- What a sequencer waits for (R166, R199, R201): a D-bit with its round check, its deadline and, for
BRD, its sense and address. -/
inductive SeqWait where
  | none
  | dbit (d : Nat) (rc : Bool) (deadline : Int) (branch : Option (Bool × BitVec 16))
  | fence
  | routine
  deriving DecidableEq, Repr

/-- One Tarfiger sequencer (R139): registers, timeline, stack, flags, STATUS.STATE, the next issue
frame (R178), stamps counted per T (R155), what it waits for, and the frames of its last NOTIFY, timed
event, PUBLISH and scratch visibility, with the register its last LDS wrote (R179). -/
structure Seq where
  g : Sparse Word
  t : Sparse Long
  tl : Long
  pc : BitVec 16
  stack : List StackEntry
  z : Bool
  n : Bool
  c : Bool
  state : BitVec 3
  nextIssue : Nat
  stamps : List (Nat × Nat)
  wait : SeqWait
  lastNotify : Option Nat
  lastTimed : Option Nat
  lastPublish : Option Nat
  lastStore : Option Nat
  ldsReg : Option Nat
  deriving DecidableEq, Repr

/-- The two alternatives of a CPLAY (R163, R192); `chosen` once the select deadline has passed. -/
structure CplayEv where
  dbit : Nat
  dflt : Bool
  rc : Bool
  pf : Nat
  qubit : Nat
  n0 : Bool
  n1 : Bool
  seg0 : Nat
  seg1 : Nat
  fs0 : Nat
  fs1 : Nat
  chosen : Option Bool
  deriving DecidableEq, Repr

/-- What a timed event does when it is released (R151). -/
inductive EvKind where
  | play (seg fs : Nat)
  | flux (seg : Nat) (scale : BitVec 16)
  | probe (seg fs : Nat) (ao : Bool) (amp : BitVec 16)
  | cplay (c : CplayEv)
  | acquire (len : Nat) (recd rd : Bool)
  | mark (width : Nat)
  | setf (fs : Nat) (word : BitVec 48)
  | vz (fs : Nat) (ph : Word)
  | phrst (fs : Nat) (all : Bool)
  deriving DecidableEq, Repr

/-- A timed event: issuing sequencer, play frame, issue frame, effect, whether it is tentative (R410)
and whether its section is re-running (R416), and its number. -/
structure Ev where
  seq : Nat
  t : Nat
  issue : Nat
  kind : EvKind
  tentative : Bool
  rerun : Bool
  id : Nat
  deriving DecidableEq, Repr

/-- A target's queue (R141): events on their way to it, and events it holds. -/
structure TQueue where
  flight : List Ev
  held : List Ev
  deriving DecidableEq, Repr

/-- A directory entry's fields as one read found them (R266, R268). -/
structure Entry where
  markers : Nat
  valid : Bool
  stream : Bool
  cls : Nat
  home : Nat
  base : Nat
  rc : Bool
  condEn : Bool
  succEn : Bool
  len : Nat
  csucc : Nat
  succ : Nat
  dbit : Nat
  deriving DecidableEq, Repr

/-- The segment playing on a target (R268 to R277): issuing sequencer, entry, play frame as a tick, frequency
slot, SCALE over 32,768, AMP override, next granule, first stream position, the successor chosen as its
entry was read, whether the deadline has passed, whether the ring was emptied under it (R275), the
samples of the granule in force, and for a tracker's segment the phase added to its slot's and the tick in which the
quanta granted to it end (R432, R433). -/
structure Play where
  seq : Nat
  entry : Entry
  t : Nat
  slot : Nat
  scale : Int
  amp : Option (BitVec 16)
  next : Nat
  base : Nat
  succ : Option Entry
  selected : Bool
  lost : Bool
  env : List Cpx
  phase : Word
  upTo : Option Nat
  deriving DecidableEq, Repr

/-- Work of a waveform slice's write port (R262). -/
inductive JobKind where
  | write (addr : Nat)
  | stream
  | spi (addr : Nat)
  deriving DecidableEq, Repr

/-- A job of a write port: what it stores, the bytes left, the first frame it can have the port in (R262),
the command it completes, whether it has stored any, whether the ring was emptied under it (R275), and whether it is held
until its ring has room (R97). -/
structure PortJob where
  kind : JobKind
  left : List Byte
  from_ : Nat
  cmd : Option Taken
  begun : Bool
  dropped : Bool
  held : Bool
  deriving DecidableEq, Repr

/-- A scratch write on its way to the other sequencers (R115). -/
structure Store where
  seq : Nat
  word : Nat
  value : Word
  visible : Nat
  deriving DecidableEq, Repr

/-- The lateness record of the period in progress (R162). -/
structure Late where
  conds : BitVec 6
  count : Nat
  seq : Nat
  target : Nat
  frame : Nat
  deriving DecidableEq, Repr

/-- A cluster's shared state: its write port, the READs of its slice, its Carafe ring by stream position (R275 to R278, R562),
the stop frame of R280, the tick it was contained in (R129), its lateness record, frames that tag records (R279), and scratch writes on
their way. -/
structure Cluster where
  port : List PortJob
  reads : List ReadJob
  ring : Sparse (Option Byte)
  wr : Nat
  rd : Nat
  dead : List (Nat × Nat)
  stopAt : Option Nat
  faultAt : Nat
  late : Late
  missing : List Nat
  lateSucc : List Nat
  stores : List Store
  deriving DecidableEq, Repr

/-- An integration window: its play frame by number and as a tick, the settings read there (R300), its addition A (R295),
whether it was cut (R303), whether an over-range sample met it (R286), whether its code is withheld from the D-bits
(R304), and the reported I and Q once they are dumped (R302). `trk` is the tracker shot it belongs to, if it is no ACQUIRE's: tracker,
item and sign (R432, R433). -/
structure Win where
  t : Nat
  tick : Nat
  len : Nat
  recd : Bool
  rd : Bool
  mode : Bool
  nw : Nat
  shift : Nat
  wbank : Nat
  add : Nat
  cut : Bool
  overRange : Bool
  noCode : Bool
  trk : Option (Nat × Nat × Bool)
  res : Option (Int × Int × Bool)
  deriving DecidableEq, Repr

/-- A state code on its way to the D-bits (R304). -/
structure CodeWrite where
  due : Nat
  code : BitVec 2
  deriving DecidableEq, Repr

/-- A hand-in on its way to the RDSP queue, or in it (R320, R322). -/
structure HandIn where
  due : Nat
  i : Int
  q : Int
  code : BitVec 2
  slot : Nat
  tags : BitVec 7
  t : Nat
  deriving DecidableEq, Repr

/-- A demodulation slot: windows, codes and hand-ins on their way, the ticks in which its stages were cleared of late
(R297), and the last full record and RATE_LOSS (R377). -/
structure Slot where
  wins : List Win
  codes : List CodeWrite
  hands : List HandIn
  clears : List Nat
  lastRec : Option Nat
  rateLoss : Bool
  deriving DecidableEq, Repr

/-- An acquisition input: the ticks of the zone changes of late (R285), the envelope detectors with the tick they have
run up to (R307), the last detector record and what it still owes (R383): the end frame of the first
block whose change it will carry. -/
structure Input where
  zones : List Nat
  env : Int
  slotEnv : Sparse Int
  envAt : Nat
  lastRec : Option Nat
  owed : Option Nat
  deriving DecidableEq, Repr

/-- A D-bit (R346). -/
structure DBit where
  value : Bool
  valid : Bool
  stale : Bool
  tag : Word
  inRound : Bool
  deriving DecidableEq, Repr

/-- A change of a D-bit: its tick, its number and what the bit held before (R347). -/
structure DChange where
  tick : Nat
  idx : Nat
  old : DBit
  deriving DecidableEq, Repr

/-- A D-bit write in flight (R116, R325, R359): the frame it takes effect in, the D-bit, the value, and
whether it clears the valid flag instead. -/
structure DWrite where
  due : Nat
  idx : Nat
  value : Bool
  clear : Bool
  deriving DecidableEq, Repr

/-- The state of a history-window entry (R363). -/
inductive NodeState where
  | none | pending | matched | forwarded | erased
  deriving DecidableEq, Repr

/-- A PAULI_UPDATE held for its due round: the frame it was held in, and whether that was too late
(R368 to R370). -/
structure PauliHold where
  due : Nat
  entries : List Word
  heldAt : Nat
  late : Bool
  deriving DecidableEq, Repr

/-- The syndrome engine (R357 to R366): previous check values, the history window by 4 × check + age,
the PERC_GRAPH word in force, held updates, and the frame of the last boundary closed. -/
structure Perc where
  prev : Sparse (Option Bool)
  hist : Sparse NodeState
  syn : Word
  held : List PauliHold
  last : Option Nat
  deriving DecidableEq, Repr

/-- A write of the RDSP pipeline not yet visible (R334): bits of a data register, a pointer, bits of a
modifier, or a write of SR through port 0x0F. -/
inductive Late1 where
  | x (n : Nat) (mask v : Word)
  | p (n : Nat) (v : BitVec 14)
  | m (n : Nat) (mask v : Word)
  | sr (v : BitVec 16)
  deriving DecidableEq, Repr

/-- A repeat in progress (R337): first and last word of the body, and the runs left. -/
structure Repeat where
  first : Nat
  last : Nat
  left : Nat
  deriving DecidableEq, Repr

/-- One RDSP core (R314). `delayed` holds writes that become visible after the next instruction, and
`fresh` those of the last one; `accOld` and `srOld` are what one-slot readers see (R334). `branch` is a
target with its delay slots left (R335). `kept` is the address withheld by an interrupt (R339), and `holds` counts the
frames for which the vendor library has not been interruptible (R431). -/
structure Rdsp where
  x : Sparse Word
  acc : Sparse (BitVec 40)
  accOld : Sparse (BitVec 40)
  p : Sparse (BitVec 14)
  m : Sparse Word
  sr : BitVec 16
  srOld : BitVec 16
  delayed : List Late1
  fresh : List Late1
  pc : BitVec 14
  state : BitVec 3
  calls : List (BitVec 14)
  reps : List Repeat
  branch : Option (Nat × BitVec 14)
  queue : List HandIn
  roundReq : Bool
  mboxReq : Bool
  kept : BitVec 14
  nextIssue : Nat
  frameHi : Word
  roundHi : Word
  holds : Nat
  deriving DecidableEq, Repr

/-- What a macro-op hands to the microengine (R201, R398), or what a host call starts with (R419), with
the targets the sequencer owns at issue (R207). -/
structure MeReq where
  host : Bool
  seq : Nat
  index : Nat
  w : List Word
  tl : Long
  t : List Long
  issue : Nat
  targets : List Nat
  deriving DecidableEq, Repr

/-- The registers and flags of a microengine that its checkpoint copies (R397, R411). -/
structure MeRegs where
  w : Sparse Word
  tls : Long
  t : Sparse Long
  z : Bool
  n : Bool
  c : Bool
  dv : Bool
  dval : Bool
  deriving DecidableEq, Repr

/-- A staged update (R409). -/
inductive Upd where
  | g (i : Nat) (v : Word)
  | t (i : Nat) (v : Long)
  | commit (gid : Word) (tl : Long)
  | shadow (addr : Word) (v : Word)
  | publish (d : Nat) (v : Bool)
  | scratch (a : Nat) (v : Word)
  | rdspX (a : Nat) (v : Word)
  deriving DecidableEq, Repr

/-- How far a vendor routine has come (R204 to R206, R209): its part, the descriptor and the header it
works from, the layer and entry, the word after the last one read, the frames left at its end, and the
words executed since the last commit (R417). -/
structure Vendor where
  part : Nat
  base : Nat
  header : Nat
  layer : Nat
  entry : Nat
  ptr : Nat
  tail : Nat
  words : Nat
  deriving DecidableEq, Repr

/-- A queue write of the pending set (R409, R414): the event's number (none when it was dropped at issue),
its queue and its stamp. -/
structure PendEv where
  id : Option Nat
  key : Nat
  t : Nat
  deriving DecidableEq, Repr

/-- A routine in progress (R397): its request, registers, next word and resume entry, checkpoint, the frame
of its next word, its pending set, the boundaries its pending SYNCRs chose, whether a round that one of them chose has
been marked skipped in this frame (R413), whether the section re-runs (R416), the private scratch words written (R412), the loads of the last word (R405), the vendor
routine it runs, and whether a stall holds it (R408). -/
structure Routine where
  req : MeReq
  regs : MeRegs
  pc : BitVec 14
  resume : BitVec 14
  check : MeRegs
  checkVendor : Option Vendor
  nextWord : Nat
  events : List PendEv
  updates : List Upd
  syncrs : List Nat
  skipped : Bool
  rerun : Bool
  priv : Sparse Word
  loads : List (Nat × Word)
  vendor : Option Vendor
  stalled : Bool
  deriving DecidableEq, Repr

/-- One microengine: requests in order (R201), the host call posted, the routine in progress, a routine
abandoned and to be restarted with the frame of its restart (R415), and the first frame in which it is
free. -/
structure Me where
  reqs : List MeReq
  hostReq : Option MeReq
  run : Option Routine
  again : Option (Routine × Nat)
  freeAt : Nat
  deriving DecidableEq, Repr

/-- A tracker shot in progress (R432): tracker, item, its sign, its stretch (5 once its last quantum is
granted) with its frames and those of them granted, the frame of its next quantum, the end of the windows it runs in
(R437), and the tick its read-out window opened in with the window's state-code bit 0, once there is one. -/
structure Shot where
  trk : Nat
  item : Nat
  plus : Bool
  stretch : Nat
  len : Nat
  pos : Nat
  at_ : Nat
  limit : Option Nat
  win : Option Nat
  code : Option Bool
  deriving DecidableEq, Repr

/-- The counts of an item's batch (R438 to R440): shots completed, their state codes counted, ones of each sign; windows
and points of each code; blocks and their sum. -/
structure Batch where
  shots : Nat
  counted : Nat
  plus : Nat
  minus : Nat
  n0 : Nat
  n1 : Nat
  i0 : Int
  q0 : Int
  i1 : Int
  q1 : Int
  blocks : Nat
  sum : Nat
  deriving DecidableEq, Repr

/-- An update ready for the next boundary (R441): tracker, item, ready frame, proposed values by
control-space address. -/
structure TrkUpdate where
  trk : Nat
  item : Nat
  ready : Nat
  values : List (Nat × Int)
  deriving DecidableEq, Repr

/-- A TRACKWIN window (R207, R437): the trackers it grants to, its targets, its first frame and the frame
after its last. -/
structure TrkWin where
  mask : BitVec 8
  targets : List Nat
  first : Nat
  last : Nat
  deriving DecidableEq, Repr

/-- The trackers of a cluster: shots, batches by 64 × tracker + item, updates ready, windows, spans of
granted quanta by target (R434), whether a shot was yielded and its routine has not restarted (R413), the first frame
in which a routine can have asked for a shot's first quantum, and the frame in which such requests were last answered
(R435). -/
structure Trk where
  shots : List Shot
  batches : Sparse Batch
  ready : List TrkUpdate
  wins : List TrkWin
  spans : List (Nat × Nat × Nat)
  yielded : Bool
  from_ : Nat
  asked : Option Nat
  deriving DecidableEq, Repr

/-- A watched D-bit group (R381): what it held, changes accumulated, the frame of the first, the frame
of the last record. -/
structure Watch where
  value : Word
  valid : Word
  stale : Word
  changed : Word
  first : Nat
  lastRec : Option Nat
  deriving DecidableEq, Repr

/-- A merge period under collection, with the tick in which its record is emitted (R378, R379). -/
structure Merge where
  period : Nat
  due : Nat
  present : Word
  codes : BitVec 64
  tagged : Word
  multi : Word
  deriving DecidableEq, Repr

/-- An open TRACE stream (R387, R390): next SEQ, records waiting with the frame each was staged in (R102), the first
lost frame and how many are lost, the tick whose samples come next, and the MARK records waiting for the samples of their
tick. -/
structure Trace where
  next : Word
  recs : List (Nat × List Byte)
  lostFrom : Nat
  lost : Nat
  at_ : Nat
  marks : List (Nat × List Byte)
  deriving DecidableEq, Repr

/-- A snapshot memory (R392): the tick that ends the re-arm, the trigger frame by number and as a tick, the frames
wanted before it and from it on, and whether these were clipped (R393). -/
structure Snap where
  rearm : Nat
  trig : Nat
  at_ : Nat
  pre : Nat
  post : Nat
  clip : Bool
  deriving DecidableEq, Repr

/-- The capture engine. -/
structure Cap where
  watch : Sparse Watch
  merge : Sparse (List Merge)
  trace : Sparse Trace
  snap : Sparse Snap
  edges : Sparse (Option Nat)
  deriving DecidableEq, Repr

/-- A mirrored entry waiting for its due frame (R457), or a loss that marks groups stale (R458). -/
structure GlEntry where
  due : Nat
  snap : Nat
  stale : Bool
  groups : Word
  valid : Byte
  values : Byte
  deriving DecidableEq, Repr

/-- One Gollet port (R448 to R460). `last` holds the outbound bits of the last frame sampled (valid and value
by group), `prevChange` the groups that changed in skip frame `prevFrame` (a tick, as those of `refreshAt`, `calSent` and `echo`), `staleFrom` the frame each group's
stale mark began, `calSent` the snapshot frame of a CAL exchange under way, `echo` the SEQ and the frame of a
CAL to be answered, and `out` the flit of this frame. `half` is the earlier flit of a data block still open, `scr` the
scrambler's last 58 bits on each lane (the last one in bit 0), and `block` the 66-bit blocks that the lanes carried last,
each with its sync header in [1:0] (R448). -/
structure Gol where
  last : Sparse (BitVec 16)
  prevChange : List (Nat × BitVec 16)
  prevFrame : Nat
  backlog : Word
  refreshAt : Option Nat
  due : List GlEntry
  staleFrom : Sparse Nat
  calOn : Bool
  calLeft : Nat
  calSeq : Byte
  calSent : Option Nat
  calMax : Int
  echo : Option (Byte × Nat)
  txq : List (Byte × Word)
  rxq : List (Byte × Word)
  out : Option (BitVec 64)
  half : Option (BitVec 64)
  scr : BitVec 58 × BitVec 58
  block : Option (BitVec 66 × BitVec 66)
  deriving DecidableEq, Repr

/-- Epochs (R461 to R464): the frame whose number is replaced, the frames in which pulses of SYNC_OUT rise, each for one
REFCLK period, and the frame number modulo 4 of the REFCLK edges (R17). -/
structure Sync where
  reloadAt : Option Nat
  edge : Nat
  outs : List Nat
  deriving DecidableEq, Repr

/-- A launch entry: armed, and due (R478, R479). -/
structure Launch where
  armed : Bool
  due : Bool
  deriving DecidableEq, Repr

/-- What the offset writes of one frame changed: a holdover entered in that frame takes effect before them
(R474). -/
structure ServoUndo where
  frame : Nat
  s : Int
  d : Int
  limit : Bool
  writes : Nat
  deriving DecidableEq, Repr

/-- The network time unit (R470 to R481): clock, integrator, adjustment, steps to be added in the next
frame, offset writes of this frame, the ticks of the last Sync of each sourcePortIdentity, entries held by the receive ring, launch
entries, and the correlation pairs latched. -/
structure Ntu where
  clock : Long
  s : Int
  d : Int
  step : Int
  undo : Option ServoUndo
  syncs : List (Nat × Nat)
  used : Nat
  launch : Sparse Launch
  pairSeq : Nat
  lastPair : Option Nat
  deriving DecidableEq, Repr

/-- One bias output (R484 to R496): whether it drives, its live code and range, the step of a range
change (1 toward 0, 2 the hold, 3 after it) with the start of its hold, the range and code at the ball with those on their way to it (R485, R489), whether
the fault record is its target (R495), the three records the NV die and the always-on domain hold, and the frame of
its last tick. -/
structure Bias where
  driven : Bool
  live : BitVec 20
  range : BitVec 2
  stage : Nat
  holdFrom : Nat
  ball : BitVec 22
  coming : List (Nat × BitVec 22)
  fault : Bool
  nvPwrup : BitVec 22
  nvFault : BitVec 22
  aonFault : BitVec 22
  ticked : Option Nat
  deriving DecidableEq, Repr

/-- An output channel's stage: its settling span in ticks, and for a flux output the range at its ball until that ends (R229,
R248). -/
structure Stage where
  settleFrom : Nat
  settleUntil : Nat
  range : Bool
  deriving DecidableEq, Repr

/-- A marker (R232 to R234): MARK pulses and triggered pulses as spans of play-timeline ticks. -/
structure Marker where
  mark : List (Nat × Nat)
  trig : List (Nat × Nat)
  deriving DecidableEq, Repr

/-- What a voice's synthesis took in one play-timeline frame (R213 to R219): its two envelope samples, its frequency
slot, the amplitude that replaces the committed one (R253), a phase added to the slot's (R433), and whether a segment
played. -/
structure VFrame where
  frame : Nat
  e0 : Cpx
  e1 : Cpx
  slot : Nat
  amp : Option (BitVec 16)
  phase : Word
  active : Bool
  deriving DecidableEq, Repr

/-- A voice: its envelope stream, newest frame first (R216), empty while that holds zeros and nothing plays; and the
slot and the amplitude of its last play-class event (R217, R253). -/
structure Voice where
  line : List VFrame
  slot : Nat
  amp : Option (BitVec 16)
  deriving DecidableEq, Repr

/-- A flux output's predistortion chain (R243, R244): IIR states and the FIR delay line, newest first. Where the chain
was set to a new idle level (R247), `olds` holds the tick, the idle value before it and the line of the samples before
it, which are still on their way (R256). -/
structure Chain where
  iir : List Int
  line : List Int
  olds : List (Nat × Int × List Int)
  deriving DecidableEq, Repr

/-- Thermal management (R502 to R508): consecutive samples at or above, and below, each threshold; the
throttle entry frame; SYNCR seen since; the last skipped round; the skipped rounds; the boundaries that
SYNCRs chose; and the frame of the last sample. -/
structure Therm where
  above : List Nat
  below : List Nat
  entry : Option Int
  syncrSeen : Bool
  stopped : Bool
  lastSkip : Option Nat
  skipped : List Nat
  chosen : List Nat
  sampled : Option Nat
  deriving DecidableEq, Repr

/-- A recorder record waiting in Barista memory (R527), without SEQ: code, class, time fields,
frame, mode, epoch, DETAIL, and for a record of a clear the RECORDER_CLEAR that waits for it (R532). -/
structure Rec where
  code : Nat
  cls : Nat
  noTime : Bool
  time : List Byte
  frame : Nat
  mode : Byte
  epoch : BitVec 16
  detail : List Byte
  clear : Option Taken
  deriving DecidableEq, Repr

/-- A write of the NV die in progress (R496, R518, R520, R525): a record's slot, its 64 bytes, whether it is permanent, the
RECORDER_CLEAR it completes, and whether bytes 0 to 62 are written; a bias output with its two records; or a page's
`NV.CMD` with its bytes. -/
inductive NvWrite where
  | record (slot : Nat) (bytes : List Byte) (perm : Bool) (clear : Option Taken) (half : Bool)
  | store (bias : Nat) (pwrup fault : BitVec 22)
  | page (cmd : Word) (bytes : List Byte)
  deriving DecidableEq, Repr

/-- The Barista (R512 to R533): records waiting, consecutive recorder writes (R520), tokens and
suppressed counts per code (R528), BIAS stores waiting, the NV page waiting, the write of the NV die in progress and
the tick of its last step, the VERSION of the image in each
firmware slot (none where it fails R513), the minimum levels, the authority key, the calendar-time reference with the
extended NTU time (R530), the bytes of the areas of the NV die by NV offset (R512), the NV reset values that an update
has given registers (R12, R512), and the frames of the always-on rail since the last whole hour (R529). -/
structure Bar where
  queue : List Rec
  streak : Nat
  tokens : Sparse Nat
  tokenAt : Sparse Nat
  suppressed : Sparse Nat
  stores : List Nat
  page : Option Word
  write : Option NvWrite
  writeAt : Nat
  imgA : Option Word
  imgB : Option Word
  minFw : Word
  minPatch : Word
  authKey : Bool
  tai : Option (Nat × Nat × Int)
  clockNs : Int
  nv : List Host.Cell
  nvReset : Sparse Word
  railFrames : Nat
  deriving DecidableEq, Repr

/-- The management SPI (R521, R522): posted words with their addresses and whether they belong to a WRITE of whole
directory entries (R265), the last access's refusal, a READ waiting, and the words
read last; `kept` of the posted words came before the word whose refusal STATUS shows. -/
structure Spi where
  posted : List (Word × Word × Bool)
  kept : Nat
  refused : Bool
  code : BitVec 4
  read : Option (Word × Nat)
  data : List Word
  status : Byte
  deriving DecidableEq, Repr

/-- Everything the block holds but its queue. `was` holds the registers as the last frame left them, and `past` what
words of the datapaths held before the frame of each change, the oldest change first: what a stage down a datapath uses
(R217, R221, R230, R234, R245, R246, R293). A flux output without a chain holds its idle level throughout. `acqPast` is the same for
the acquisition inputs, whose windows look further back (R300). `ticks` counts the frames since RESET_N was released,
whatever number the frame counter shows: what R19 lets no epoch alter is measured by it, a time since an event or a rate
limit (log entry 30); `jumps` holds the ticks of the epochs, newest first, with how far the counter lags the ticks from
each on, and `boots` counts the resets. `phase` counts the parts of a frame that an idle queue has worked through
(log entry 1), and `freeCtr` the free values drawn (log entry 9): both are the model's own. -/
structure Body where
  frame : Nat
  ticks : Nat
  jumps : List (Nat × Int)
  boots : Nat
  mode : Mode
  power : Power
  boot : Boot
  modes : Modes
  regs : Sparse Word
  shadow : Sparse Word
  dirty : List Nat
  latches : Sparse Word
  staging : Sparse Word
  mem : List Host.Cell
  host : HostUnit
  commits : List PendingCommit
  seqs : Sparse Seq
  tqueues : Sparse TQueue
  plays : Sparse Play
  clusters : Sparse Cluster
  slots : Sparse Slot
  inputs : Sparse Input
  dbits : Sparse DBit
  dlog : List DChange
  dwrites : List DWrite
  perc : Perc
  rdsps : Sparse Rdsp
  mes : Sparse Me
  trks : Sparse Trk
  baselines : Sparse Word
  cap : Cap
  gols : Sparse Gol
  sync : Sync
  ntu : Ntu
  biases : Sparse Bias
  stages : Sparse Stage
  markers : Sparse Marker
  voices : Sparse Voice
  chains : Sparse Chain
  dac : Sparse (List (Nat × List Int))
  was : Sparse Word
  past : List (Nat × Nat × Word)
  acqPast : List (Nat × Nat × Word)
  therm : Therm
  bar : Bar
  spi : Spi
  phase : Nat
  freeCtr : Nat
  deriving DecidableEq, Repr

/-- The state of the block: its queue of waiting commands, and what the block held at the boundary of the frame in
progress. A fault detected in the frame takes effect at that boundary (R40, R129, R131; log entry 25). -/
structure State extends Body where
  pending : List Instr
  base : Option Body
  deriving DecidableEq, Repr

/-- A step of this block never faults: a fault of the device is state (R127). The one constructor
names the only stop that a later row could need. -/
inductive Fault where
  /-- Raised by no meaning; the device's own faults are states (safe). -/
  | none
  deriving DecidableEq, Repr

/-- Why a command has no meaning in this model. -/
inductive Refusal where
  /-- Raised by the arm of a row that has no meaning yet (safe). -/
  | notModelled (mnemonic : String)
  deriving DecidableEq, Repr

def HostQ.init : HostQ := ⟨0, 0, [], [], [], none, none, []⟩
/-- A port after reset; that the credit of its reservation starts at 0 is DESIGN CHOICE (log entry 60). -/
def Port.init : Port := ⟨true, 0, 0, [], none, 0, 0, 0⟩
def Stream.init : Stream := ⟨0, []⟩
/-- The command unit after reset; that its round-robin begins at queue 0 is DESIGN CHOICE (log entry 60). -/
def HostUnit.init : HostUnit := ⟨[], [], 0, none, 63, none, 0, [], .init, .init, [], false, 0⟩
def Seq.init : Seq :=
  ⟨[], [], 0, 0, [], false, false, false, 0, 0, [], .none, none, none, none, none, none⟩
def TQueue.init : TQueue := ⟨[], []⟩
def Late.init : Late := ⟨0, 0, 0, 0, 0⟩
def Cluster.init : Cluster := ⟨[], [], [], 0, 0, [], none, 0, .init, [], [], []⟩
def Slot.init : Slot := ⟨[], [], [], [], none, false⟩
def Input.init : Input := ⟨[], 0, [], 0, none, none⟩
def DBit.init : DBit := ⟨false, false, false, 0, false⟩
def Perc.init : Perc := ⟨[], [], 0x10, [], none⟩
def Rdsp.init : Rdsp :=
  ⟨[], [], [], [], [], 0, 0, [], [], 0, 0, [], [], none, [], false, false, 0, 0, 0, 0, 0⟩
def MeRegs.init : MeRegs := ⟨[], 0, [], false, false, false, false, false⟩
def Me.init : Me := ⟨[], none, none, none, 0⟩
def Batch.init : Batch := ⟨0, 0, 0, 0, 0, 0, 0, 0, 0, 0, 0, 0⟩
def Trk.init : Trk := ⟨[], [], [], [], [], false, 0, none⟩
def Watch.init : Watch := ⟨0, 0, 0, 0, 0, none⟩
def Trace.init : Trace := ⟨0, [], 0, 0, 0, []⟩
def Snap.init : Snap := ⟨0, 0, 0, 0, 0, false⟩
def Cap.init : Cap := ⟨[], [], [], [], []⟩
def Gol.init : Gol :=
  ⟨[], [], 0, 0, none, [], [], false, 0, 0, none, 0, none, [], [], none, none, (0, 0), none⟩
/-- Epochs after reset; that REFCLK edges come with frames 0, 4, 8, … is DESIGN CHOICE (R17, log entry 60). -/
def Sync.init : Sync := ⟨none, 0, []⟩
def Launch.init : Launch := ⟨false, false⟩
def Ntu.init : Ntu := ⟨0, 0, 0, 0, none, [], 0, [], 0, none⟩
def Bias.init : Bias := ⟨true, 0, 0, 0, 0, 0, [], false, 0, 0, 0, none⟩
def Stage.init : Stage := ⟨0, 0, false⟩
def Marker.init : Marker := ⟨[], []⟩
def Voice.init : Voice := ⟨[], 0, none⟩
def Chain.init : Chain := ⟨List.replicate 8 0, List.replicate 84 0, []⟩
def Therm.init : Therm := ⟨[0, 0, 0], [0, 0, 0], none, false, false, none, [], [], none⟩
def Bar.init : Bar := ⟨[], 0, [], [], [], [], none, none, 0, some 0, some 0, 0, 0, false, none, 0, [], [], 0⟩
def Spi.init : Spi := ⟨[], 0, false, 0, none, [], 0⟩

/-- The machine right after reset: RESET_N has just been released with rails and REFCLK valid, and
BOOT begins at frame 0 (R12, R19, R42; log entry 4). Registers hold the reset values of
Machine/RegMap.lean, and memory lists nothing. -/
def State.reset : State where
  pending := []
  base := none
  frame := 0
  ticks := 0
  jumps := []
  boots := 0
  mode := .boot
  power := ⟨true, true, true, true, false, false⟩
  boot := ⟨1, false, [], []⟩
  modes := ⟨none, none, none, [], 0, 0, [], [], none, 0, none, 0, [], []⟩
  regs := []
  shadow := []
  dirty := []
  latches := []
  staging := []
  mem := []
  host := .init
  commits := []
  seqs := []
  tqueues := []
  plays := []
  clusters := []
  slots := []
  inputs := []
  dbits := []
  dlog := []
  dwrites := []
  perc := .init
  rdsps := []
  mes := []
  trks := []
  baselines := []
  cap := .init
  gols := []
  sync := .init
  ntu := .init
  biases := []
  stages := []
  markers := []
  voices := []
  chains := []
  dac := []
  was := []
  past := []
  acqPast := []
  therm := .init
  bar := .init
  spi := .init
  phase := 0
  freeCtr := 0

end Sys2Proof.Machine
end

