-- ==== Sys2Proof/Machine/Sparse.lean ====
section
/-!
DEFINITION. Reading and writing things held by number over a reset value. A list written only with
`sset` stays in one canonical form: numbers strictly rising, nothing listed that equals its reset value.
-/
namespace Sys2Proof.Machine

/-- The thing with number `k`; `d` is what an unlisted number holds. -/
def sget {α : Type} (d : α) (l : List (Nat × α)) (k : Nat) : α :=
  match l with
  | [] => d
  | (j, v) :: t => if j = k then v else sget d t k

/-- The list without number `k`. -/
def serase {α : Type} (l : List (Nat × α)) (k : Nat) : List (Nat × α) :=
  match l with
  | [] => []
  | (j, v) :: t => if j = k then serase t k else (j, v) :: serase t k

/-- The list with `(k, v)` at its place by number. -/
def sins {α : Type} (l : List (Nat × α)) (k : Nat) (v : α) : List (Nat × α) :=
  match l with
  | [] => [(k, v)]
  | (j, w) :: t => if k < j then (k, v) :: (j, w) :: t else (j, w) :: sins t k v

/-- The list after number `k` takes value `v`. -/
def sset {α : Type} [DecidableEq α] (d : α) (l : List (Nat × α)) (k : Nat) (v : α) :
    List (Nat × α) :=
  if v = d then serase l k else sins (serase l k) k v

/-- The list after number `k` is changed by `f`. -/
def supd {α : Type} [DecidableEq α] (d : α) (l : List (Nat × α)) (k : Nat) (f : α → α) :
    List (Nat × α) :=
  sset d l k (f (sget d l k))

/-- Keys of a sparse list. -/
def skeys {α : Type} (l : List (Nat × α)) : List Nat := l.map (fun p => p.1)

/-- The canonical form: numbers strictly rising above `lo`, and no value equal to `d`. -/
def swfFrom {α : Type} [DecidableEq α] (d : α) (lo : Nat) (l : List (Nat × α)) : Bool :=
  match l with
  | [] => true
  | (k, v) :: t => decide (lo ≤ k) && !decide (v = d) && swfFrom d (k + 1) t

/-- The canonical form of a whole list. -/
def swf {α : Type} [DecidableEq α] (d : α) (l : List (Nat × α)) : Bool := swfFrom d 0 l

/-- The canonical form of byte memory: addresses strictly rising, and no byte listed that equals what an
unlisted address reads as (log entry 6). -/
def Memory.wf (m : List Host.Cell) : Bool := swf 0 m

/-- Bit `b` of `n`. -/
def bitOf (n b : Nat) : Bool := n.testBit b

/-- Bits `hi` down to `lo` of `n`, as a number. -/
def bitsOf (n hi lo : Nat) : Nat := n / 2 ^ lo % 2 ^ (hi + 1 - lo)

/-- Bits `hi` down to `lo` of `n` read as two's complement. -/
def sbitsOf (n hi lo : Nat) : Int :=
  if n.testBit hi then (bitsOf n hi lo : Int) - 2 ^ (hi + 1 - lo) else bitsOf n hi lo

/-- `n` with bits `hi` down to `lo` replaced by the low bits of `v`. -/
def withBits (n hi lo v : Nat) : Nat :=
  n - bitsOf n hi lo * 2 ^ lo + v % 2 ^ (hi + 1 - lo) * 2 ^ lo

/-- One as a Nat for true. -/
def b2n (b : Bool) : Nat := if b then 1 else 0

/-- The value limited to the signed range of `w` bits. -/
def satInt (w : Nat) (v : Int) : Int :=
  if v < -(2 ^ (w - 1)) then -(2 ^ (w - 1)) else if v > 2 ^ (w - 1) - 1 then 2 ^ (w - 1) - 1 else v

/-- Floor division by `2 ^ n`. -/
def asr (v : Int) (n : Nat) : Int := v / (2 ^ n : Int)

/-- Division by `2 ^ n`, rounded to nearest with halves to even. -/
def rneInt (v : Int) (n : Nat) : Int :=
  if n = 0 then v else
  let q := v / (2 ^ n : Int)
  let r := v % (2 ^ n : Int)
  let half : Int := 2 ^ (n - 1)
  if r < half then q else if r > half then q + 1 else if q % 2 = 0 then q else q + 1

/-- The first element of a list that satisfies `p`. -/
def firstSome {α β : Type} (l : List α) (f : α → Option β) : Option β :=
  match l with
  | [] => none
  | a :: t => match f a with
    | some b => some b
    | none => firstSome t f

/-- Fold of a state change over a list. -/
def forEach {α σ : Type} (l : List α) (f : α → σ → σ) (s : σ) : σ := l.foldl (fun s a => f a s) s

/-- `f` applied `n` times. -/
def repeatN {α : Type} (n : Nat) (f : α → α) (a : α) : α :=
  match n with
  | 0 => a
  | n + 1 => repeatN n f (f a)

/-- An element put before the first element whose key is greater. -/
def insertBy {α : Type} (key : α → Nat) (a : α) (l : List α) : List α :=
  match l with
  | [] => [a]
  | b :: t => if key a < key b then a :: b :: t else b :: insertBy key a t

/-- The list in rising order of a key, equal keys as they stood. -/
def sortBy {α : Type} (key : α → Nat) (l : List α) : List α :=
  l.foldl (fun r a => insertBy key a r) []

/-- A number's `n` bytes, least significant first (R81). -/
def leBytes (n v : Nat) : List Byte :=
  match n with
  | 0 => []
  | n + 1 => BitVec.ofNat 8 v :: leBytes n (v / 256)

/-- The number that bytes spell, least significant first (R81). -/
def leNat (l : List Byte) : Nat :=
  match l with
  | [] => 0
  | b :: t => b.toNat + 256 * leNat t

/-- The number that bytes spell, most significant first (network byte order, R80). -/
def beNat (l : List Byte) : Nat := l.foldl (fun n b => 256 * n + b.toNat) 0

/-- A number's `n` bytes, most significant first. -/
def beBytes (n v : Nat) : List Byte := (leBytes n v).reverse

/-- `n` bytes of `l` from byte `o`, as a number, least significant first. -/
def leAt (l : List Byte) (o n : Nat) : Nat := leNat ((l.drop o).take n)

/-- The list cut into pieces of `n` bytes (`k` pieces at most). -/
def pieces {α : Type} (n : Nat) (l : List α) (k : Nat) : List (List α) :=
  match k with
  | 0 => []
  | k + 1 => match l with
    | [] => []
    | _ :: _ => l.take n :: pieces n (l.drop n) k

end Sys2Proof.Machine
end

