-- ==== Sys2Proof/Machine/Trig.lean ====
section
/-!
DEFINITION. Sine and cosine: of an exact phase (R218, R287, R487), and as the generator of the voices gives them (R218).
-/
namespace Sys2Proof.Machine

/-- 2^80, the scale of this arithmetic. -/
def sinScale : Int := 2 ^ 80

/-- 2^80 × sin(2π n / d) for a phase of at most a quarter turn, by Taylor's series; exact at its ends. -/
def sinTaylor (n d : Nat) : Int :=
  if 4 * n = d then sinScale
  else
    let x : Int := (2 * 31415926535897932384626433832795028841971693993751 * n * sinScale) / (d * 10 ^ 49)
    let x2 := x * x / sinScale
    let r := (List.range 14).foldl (fun (acc : Int × Int) (k : Nat) =>
      let t := -(acc.2 * x2 / sinScale) / (((2 * k + 2) * (2 * k + 3) : Nat) : Int)
      (acc.1 + t, t)) (x, x)
    r.1

/-- 2^80 × sin(2π n / d). -/
def sinFrac (n d : Nat) : Int :=
  let r := 4 * n % d
  match 4 * n / d % 4 with
  | 0 => sinTaylor r (4 * d)
  | 1 => sinTaylor (d - r) (4 * d)
  | 2 => -sinTaylor r (4 * d)
  | _ => -sinTaylor (d - r) (4 * d)

/-- 2^80 × cos(2π n / d). -/
def cosFrac (n d : Nat) : Int := sinFrac (4 * n + d) (4 * d)

/-- 2^80 × sin(2π p / 2^48). -/
def sinTurn (p : Nat) : Int := sinFrac p (2 ^ 48)

/-- 2^80 × cos(2π p / 2^48). -/
def cosTurn (p : Nat) : Int := cosFrac p (2 ^ 48)

/-- The sine and cosine generator (R218): cosine and sine of a 24-bit phase as 18-bit values, 2^17 per unit (DESIGN
CHOICE, log entry 62), rounded to a neighbour in a way that the spec does not state. -/
def cosSin (p : BitVec 24) : Cpx :=
  ⟨satInt 18 (Config.narrow (Config.generatorUp p false) (cosTurn (p.toNat * 2 ^ 24)) (2 ^ 63)),
    satInt 18 (Config.narrow (Config.generatorUp p true) (sinTurn (p.toNat * 2 ^ 24)) (2 ^ 63))⟩

/-- The 48-bit phase of a slot with frequency word `f` and phase `phi` at sample index `n` (R218, R287). -/
def slotPhase (f : BitVec 48) (phi : Word) (n : Nat) : Nat := ((f.toNat * n) % 2 ^ 48 + phi.toNat * 2 ^ 16) % 2 ^ 48

end Sys2Proof.Machine
end

