-- ==== Sys2Proof/Machine/Filters.lean ====
section
/-!
DEFINITION. The fixed filters of the datapaths (R216, R291, R296). The spec bounds their responses and does not state
their taps: each is a free choice (Config.lean) where that choice keeps the bounds, and else a design that keeps them, so
that the taps in use always keep them (log entry 66).
-/
namespace Sys2Proof.Machine

/-- Clenshaw's recurrence for the sum of `c_j × cos(j ω)` and, by its second part, of `c_j × sin(j ω)`, with 2^80 cos ω. -/
def clenshaw (taps : List Int) (x : Int) : Int × Int :=
  let r := taps.foldr (fun c (b : Int × Int) => (c * sinScale + 2 * x * b.1 / sinScale - b.2, b.1)) (0, 0)
  (r.1 - x * r.2 / sinScale, r.2)

/-- 2^80 times the response at `n / d` of its sampling rate of the filter with taps `l` on either side of its centre. -/
def evenResponse (l : List Int) (n d : Nat) : Int := 2 * (clenshaw l (cosFrac n d)).1 - l.headD 0 * sinScale

/-- The squared magnitude of the response of a filter at `n / d` of its sampling rate, scaled by 2^160. -/
def power (taps : List Int) (n d : Nat) : Int :=
  let r := clenshaw taps (cosFrac n d)
  r.1 ^ 2 + (sinFrac n d * r.2 / sinScale) ^ 2

/-- A power within 0.01 dB of that of `one`. -/
def flat (one m : Int) : Bool :=
  decide ((998849 * one) ^ 2 ≤ m * 10 ^ 12 ∧ m * 10 ^ 12 ≤ (1001152 * one) ^ 2)

/-- A power at least 80 dB below that of `one`. -/
def below80 (one m : Int) : Bool := decide (m * 10 ^ 8 ≤ one ^ 2)

/-- A power at least 85 dB below that of `one`. -/
def below85 (one m : Int) : Bool := decide (m * 316227766 ≤ one ^ 2)

/-- The numbers from `a` to `b`. -/
def upTo (a b : Nat) : List Nat := (List.range (b + 1 - a)).map (fun k => a + k)

/-- Taps on either side of the centre as a filter. -/
def mirrored (l : List Int) : List Int := (l.drop 1).reverse ++ l

/-! ## The interpolation filter (R216) -/

/-- Whether taps at 16 GS/s are within 0.01 dB of unit gain up to 0.8 GHz, and 80 dB below it from 1.2 GHz on (R216),
at the multiples of 16 GHz / 960. -/
def interpolateOk (l : List Int) : Bool :=
  let one : Int := 2 ^ 27 * sinScale
  (upTo 0 48).all (fun k => flat one (evenResponse l k 960 ^ 2))
    && (upTo 72 480).all (fun k => below80 one (evenResponse l k 960 ^ 2))

/-- Taps that keep the bounds of R216. -/
def interpolateDesign : List Int :=
  [16485174, 16073117, 14874637, 12998614, 10613116, 7927004, 5167422, 2555855, 285606, -1496731, -2703747,
    -3312437, -3361852, -2943860, -2188460, -1245772, -267041, 612928, 1289876, 1699233, 1819563, 1670302, 1304591,
    798501, 238402, -291748, -721479, -1001953, -1110340, -1050212, -848267, -548190, -202783, 134379, 416560,
    609731, 696060, 674736, 560312, 379010, 163762, -51209, -235417, -366078, -430547, -427028, -363645, -256180,
    -124936, 8690, 125428, 210670, 256049, 259909, 226759, 165870, 89357, 10065, -60383, -113133, -143024, -148870,
    -133102, -100940, -59241, -15279, 24383, 54751, 72909, 78142, 71713, 56374, 35735, 13591, -6668, -22494,
    -32418, -36088, -34126, -27863, -19010, -9330, -358, 6781, 11474, 13598, 13447, 11590, 8725, 5533]
  ++ [2578, 239, -1306, -2065, -2179, -1884, -1644]

/-- Tap j, in units of 2^−24, of the fixed interpolation filter at j DAC samples from its centre, on either side: the
filter is linear in phase, and its response ends 12 envelope samples from the centre (R216). -/
def interpolateTaps : List Int :=
  let l := (List.finRange 97).map Config.interpolateTap
  if interpolateOk l then l else interpolateDesign

/-- The fixed interpolation filter (R216): the value k (0 to 7) DAC samples after an envelope sample, in units of 2^−24,
from the 25 samples of the voice's envelope stream around it, newest first. -/
def interpolate (l : List Cpx) (k : Nat) : Cpx :=
  let tap (i : Nat) : Int := interpolateTaps.getD (if k + 8 * i < 96 then 96 - (k + 8 * i) else k + 8 * i - 96) 0
  let sum (f : Cpx → Int) : Int := ((List.range 25).map (fun i => tap i * f (l.getD i ⟨0, 0⟩))).sum
  ⟨sum Cpx.re, sum Cpx.im⟩

/-! ## The decimating filters (R290, R291) -/

/-- A list of coefficients after one more integrator and comb of decimation 8. -/
def cicGrow (l : List Int) : List Int :=
  (List.range (l.length + 7)).map (fun n => ((List.range 8).map (fun k => if k ≤ n then l.getD (n - k) 0 else 0)).sum)

/-- The impulse response of the order-5 CIC decimator by 8: 36 samples, of sum 8^5 (R290). -/
def cicTaps : List Int := cicGrow (cicGrow (cicGrow (cicGrow (cicGrow [1]))))

/-- The taps of a half-band stage from its centre on, with a DC gain of 1 (R291). -/
def withCentre (side : List Int) : List Int := (2 ^ 24 - 2 * side.sum) :: side

/-- Whether half-band stage `k` is within 0.01 dB of unit gain up to 0.4, and 85 dB below it from 0.6 of its output rate
on (R291), at the multiples of 1/320 of its input rate. The first stage corrects the droop of the CIC decimator (R290). -/
def halfBandOk (k : Nat) (side : List Int) : Bool :=
  let h (n : Nat) : Int := evenResponse (withCentre side) n 320 ^ 2
  let pass (n : Nat) : Bool :=
    if k = 1 then flat (2 ^ 39 * sinScale * sinScale) (h n * power cicTaps n 2560)
    else flat (2 ^ 24 * sinScale) (h n)
  (upTo 0 64).all pass && (upTo 96 160).all (fun n => below85 (2 ^ 24 * sinScale) (h n))

/-- Taps that keep the bounds of R291 for the first half-band stage. -/
def droopDesign : List Int :=
  [5869826, -735782, -2601972, 13770, 1506073, 137861, -958518, -170592, 628056, 163615, -410369, -140887, 262174,
    112726, -161288, -84600, 94131, 59564, -51196, -39139, 25292, 23753, -10860, -13082, 3672, 6338, -667, -2539,
    -223, 710, 257]

/-- Taps that keep the bounds of R291 for the others. -/
def halfBandDesign : List Int :=
  [5312235, 176961, -1697324, -167495, 935117, 152723, -586780, -134002, 382795, 112956, -250064, -91268, 160136,
    70467, -98964, -51771, 58162, 35985, -31959, -23474, 16035, 14204, -7064, -7829, 2516, 3814, -553, -1548, -77,
    450, 153]

/-- The taps beside the centre of half-band stage `k` (1 to 3), in units of 2^−24 (R291). -/
def halfBandTaps (k : Nat) : List Int :=
  let l := (List.finRange 31).map (Config.halfBandTap k)
  if halfBandOk k l then l else if k = 1 then droopDesign else halfBandDesign

/-! ## The resampler (R296) -/

/-- Whether a prototype of 64 phases and 16 taps keeps at least half power up to 0.4 and 80 dB of rejection from 0.6 of
its input rate on, which is the output rate at STEP 1.0, at the multiples of 1/160 of that rate; and each phase a DC gain
of 1 (R291, R296; that the passband ends at half power and the stopband begins at 0.6 is DESIGN CHOICE, log entry 66). -/
def resampleOk (l : List Int) : Bool :=
  let one : Int := 2 ^ 30 * sinScale
  let h (n : Nat) : Int := power l n 10240
  (upTo 0 64).all (fun n => decide (one ^ 2 ≤ 2 * h n ∧ h n ≤ 2 * one ^ 2))
    && (upTo 96 5120).all (fun n => below80 one (h n))
    && (List.range 64).all (fun p => ((List.range 16).map (fun j => l.getD (64 * j + p) 0)).sum == 2 ^ 24)

/-- Part 1 of the later half of taps that keep the bounds of R296, from the centre on. -/
def resamplePart1 : List Int :=
  [15153278, 15148227, 15133042, 15107748, 15072380, 15026980, 14971605, 14906324, 14831216, 14746379, 14651917,
    14547944, 14434595, 14312000, 14180316, 14039706, 13890344, 13732412, 13566101, 13391620, 13209180, 13019006,
    12821326, 12616378, 12404420, 12185699, 11960485, 11729045, 11491659, 11248610, 11000189, 10746689, 10488412,
    10225662, 9958748, 9687981, 9413678, 9136157, 8855738, 8572745, 8287499, 8000327, 7711552, 7421500, 7130495,
    6838859, 6546915, 6254982, 5963378, 5672417, 5382410, 5093666, 4806488, 4521175, 4238021, 3957315, 3679339,
    3404372, 3132684, 2864538, 2600192, 2339895, 2083889, 1832407, 1585660, 1343917, 1107333, 876124, 650477,
    430574, 216585, 8670, -193019, -388342, -577169, -759379, -934863, -1103521, -1265266, -1420018, -1567712,
    -1708289, -1841704, -1967920, -2086914, -2198670, -2303183, -2400459, -2490515, -2573377]

/-- Part 2 of the later half of taps that keep the bounds of R296, from the centre on. -/
def resamplePart2 : List Int :=
  [-2649079, -2717668, -2779199, -2833736, -2881353, -2922131, -2956162, -2983546, -3004391, -3018811, -3026931,
    -3028882, -3024800, -3014831, -2999127, -2977843, -2951144, -2919199, -2882180, -2840268, -2793645, -2742499,
    -2687021, -2627405, -2563851, -2496558, -2425729, -2351569, -2274286, -2194087, -2111181, -2025779, -1938089,
    -1848322, -1756687, -1663393, -1568648, -1472657, -1375641, -1277748, -1179233, -1080276, -981074, -881817,
    -782693, -683886, -585576, -487940, -391149, -295369, -200763, -107487, -15692, 74474, 162873, 249368, 333832,
    416141, 496178, 573835, 649006, 721594, 791508, 858663, 922981, 984392, 1042831, 1098239, 1150564, 1199764,
    1245798, 1288636, 1328252, 1364628, 1397751, 1427616, 1454222, 1477576, 1497690, 1514582, 1528275, 1538800,
    1546191, 1550487, 1551735, 1549984, 1545290, 1537711, 1527312, 1514160]

/-- Part 3 of the later half of taps that keep the bounds of R296, from the centre on. -/
def resamplePart3 : List Int :=
  [1498329, 1479894, 1458934, 1435532, 1409775, 1381752, 1351555, 1319277, 1285017, 1248873, 1210945, 1171336,
    1130135, 1087500, 1043485, 998211, 951786, 904317, 855913, 806682, 756732, 706169, 655101, 603633, 551870,
    499915, 447872, 395839, 343918, 292203, 240790, 189773, 139241, 89282, 39982, -8576, -56313, -103151, -149017,
    -193839, -237551, -280087, -321387, -361393, -400050, -437308, -473120, -507442, -540234, -571459, -601084,
    -629081, -655424, -680090, -703060, -724321, -743860, -761670, -777745, -792085, -804692, -815570, -824730,
    -832182, -837941, -842024, -844453, -845250, -844442, -842058, -838127, -832685, -825766, -817409, -807653,
    -796541, -784131, -770416, -755495, -739403, -722188, -703903, -684600, -664331, -643151, -621114, -598276,
    -574693, -550421, -525517]

/-- Part 4 of the later half of taps that keep the bounds of R296, from the centre on. -/
def resamplePart4 : List Int :=
  [-500038, -474040, -447581, -420717, -393504, -365999, -338257, -310333, -282282, -254156, -226010, -197893,
    -169858, -141954, -114229, -86731, -59506, -32598, -6051, 20094, 45797, 71019, 95723, 119874, 143438, 166383,
    188680, 210300, 231216, 251404, 270841, 289506, 307380, 324445, 340685, 356088, 370642, 384335, 397160, 409111,
    420183, 430372, 439677, 448098, 455638, 462300, 468088, 473010, 477073, 480287, 482647, 484219, 484963, 484908,
    484070, 482467, 480115, 477035, 473245, 468766, 463620, 457829, 451416, 444405, 436819, 428684, 420024, 410865,
    401233, 391154, 380654, 369759, 358497, 346895, 334978, 322773, 310307, 297607, 284698, 271607, 258360, 244981,
    231495, 217928, 204304, 190646, 176977, 163320, 149697, 136130]

/-- Part 5 of the later half of taps that keep the bounds of R296, from the centre on. -/
def resamplePart5 : List Int :=
  [122639, 109245, 95966, 82823, 69833, 57013, 44380, 31950, 19738, 7759, -3975, -15451, -26656, -37579, -48211,
    -58541, -68561, -78263, -87640, -96685, -105393, -113759, -121779, -129450, -136782, -143724, -150324, -156568,
    -162456, -167989, -173168, -177994, -182471, -186601, -190387, -193834, -196947, -199729, -202188, -204328,
    -206155, -207678, -208901, -209833, -210482, -210855, -210960, -210805, -210400, -209753, -208872, -207767,
    -206447, -204922, -203199, -201290, -199202, -196946, -194531, -191966, -189261, -186424, -183465, -180393,
    -177217, -173945, -170587, -167150, -163644, -160076, -156454, -152787, -149081, -145344, -141584, -137807,
    -134020, -130229, -126441, -122662, -118897, -115152, -111433, -107743, -104088, -100473, -96901, -93377,
    -89919, -86477]

/-- Part 6 of the later half of taps that keep the bounds of R296, from the centre on. -/
def resamplePart6 : List Int :=
  [-83108, -79800, -76555, -73376, -70264, -67223, -64253, -61356, -58534, -55787, -53116, -50522, -48006, -45568,
    -43208, -40925, -38721, -36594, -34544, -32571, -30673, -28851, -27102, -25426, -23822, -22289, -20825, -19429,
    -18099, -16834, -15632, -14492, -13412, -12390, -11424, -10513, -9655, -8848, -8090, -7380, -6715, -6094,
    -5516, -4977, -4476, -4013, -3584, -3189, -2825, -2491, -2186, -1907, -1654, -1424, -1217, -1031, -865, -717,
    -587, -472, -373, -287]

/-- The later half of taps that keep the bounds of R296, from the centre on. -/
def resampleHalf : List Int :=
  resamplePart1 ++ resamplePart2 ++ resamplePart3 ++ resamplePart4 ++ resamplePart5 ++ resamplePart6

/-- The prototype filter of the resampler, in units of 2^−24: tap j of phase p stands at 64 j + p (R296). -/
def resampleTaps : List Int :=
  let l := (List.range 1024).map (fun i => Config.resampleTap (Fin.ofNat 64 i) (Fin.ofNat 16 (i / 64)))
  if resampleOk l then l else 0 :: mirrored resampleHalf

end Sys2Proof.Machine
end

