-- ==== Sys2Proof/Machine/Flags.lean ====
section
/-!
DEFINITION. Results and condition flags of the 32-bit arithmetic: Tarfiger (R180), the microengine ALU
(R404) and the RDSP (R332).
-/
namespace Sys2Proof.Machine

/-- A result with its Z and N flags, and C where the operation sets it (R180). -/
structure AluOut where
  r : Word
  z : Bool
  n : Bool
  c : Option Bool
  deriving DecidableEq, Repr

/-- A result whose Z and N come from the result and whose C is kept. -/
def AluOut.of (r : Word) : AluOut := ⟨r, r == 0, r.msb, none⟩

/-- a + b: C is the carry out (R180). -/
def aluAdd (a b : Word) : AluOut := { AluOut.of (a + b) with c := some (decide (2 ^ 32 ≤ a.toNat + b.toNat)) }

/-- a − b: C is 1 when a < b unsigned (R180). -/
def aluSub (a b : Word) : AluOut := { AluOut.of (a - b) with c := some (decide (a.toNat < b.toNat)) }

def aluAnd (a b : Word) : AluOut := .of (a &&& b)
def aluOr (a b : Word) : AluOut := .of (a ||| b)
def aluXor (a b : Word) : AluOut := .of (a ^^^ b)

/-- a shifted left by b[4:0]. -/
def aluShl (a b : Word) : AluOut := .of (a <<< (b.toNat % 32))

/-- a shifted right by b[4:0], sign-filled when `arith`, zero-filled otherwise. -/
def aluShr (arith : Bool) (a b : Word) : AluOut :=
  .of (if arith then a.sshiftRight (b.toNat % 32) else a >>> (b.toNat % 32))

/-- Signed a[15:0] times signed b[15:0], exact (R180). -/
def aluMul16 (a b : Word) : AluOut :=
  .of (BitVec.ofInt 32 ((a.setWidth 16).toInt * (b.setWidth 16).toInt))

/-- The flags of CMP: equality, signed and unsigned order (R180). -/
def aluCmp (a b : Word) : AluOut :=
  ⟨a, a == b, decide (a.toInt < b.toInt), some (decide (a.toNat < b.toNat))⟩

/-- Whether a Tarfiger branch condition holds (R181). -/
def condHolds (cond : Nat) (z n c : Bool) : Bool :=
  match cond with
  | 0 => true
  | 1 => z
  | 2 => !z
  | 3 => n
  | 4 => !n
  | 5 => c
  | 6 => !c
  | 7 => z || n
  | 8 => !z && !n
  | 9 => c || z
  | 10 => !c && !z
  | _ => false

/-- Whether an RDSP branch condition holds (R333): E tells an empty hand-in queue. -/
def rdspCond (cond : Nat) (z n e : Bool) : Bool :=
  match cond with
  | 0 => true
  | 1 => z
  | 2 => !z
  | 3 => n
  | 4 => !n
  | 5 => z || n
  | 6 => !z && !n
  | 7 => e
  | 8 => !e
  | _ => false

end Sys2Proof.Machine
end

