-- ==== Sys2Proof/Machine/RegMap.lean ====
section
/-!
DEFINITION. The control-space map (R534 to R541): every register and memory window of the spec, with
its address, fields, access codes, reset values, group and whether RUN refuses a write (R126).
-/
namespace Sys2Proof.Machine

/-- Every register (or word of a register) and memory window of the control space. -/
inductive RegKind where
  | gId | gMapRev | gScratch | gMode | gModeReq | gResetCause | gSleepCtrl | gWakeLo | gWakeHi
  | gFaultPolicy | gClusterFault | gFaultFrameLo | gFaultFrameHi
  | gFrameLo | gFrameHi | gRoundLen | gOriginLo | gOriginHi | gRoundNumLo | gRoundNumHi | gTiming
  | hPortCfg | hLinkStatus | hMtu | hVlan | hEpoch | hCplRto | hAckDelay | hStreamFlush | hLinkLoss
  | hCplLost | hDropCnt | hMacHi | hMacLo | hAddr | hUdpPorts | hIpCfg
  | seqCtrl | seqEntry | seqStatus | seqPc | seqTlLo | seqTlHi | seqLateCnt | seqSelectCnt
  | seqDbitCnt | seqMask | seqMrkMask | seqGreg | clusterSeqCfg | scratchMem | progMem
  | drvCtrl | drvGain | drvSkew | drvStatus | drvSatCnt | drvVoiceAmp | drvVoiceConst | drvVoiceState
  | drvFreqLo | drvFreqHi | drvPhase | drvLiveLo | drvLiveHi | drvLivePhase
  | mrkCtrl | mrkCfg | mrkStatus
  | flxCtrl | flxOutCfg | flxOffset | flxStatus | flxSatCnt | flxPredCtrl | flxPredStatus
  | flxCoef | flxTap
  | prbCtrl | prbGain | prbSkew | prbStatus | prbSatCnt | prbSatVoice | prbVoiceAmp | prbVoiceConst
  | prbVoiceState | prbFreqLo | prbFreqHi | prbPhase | prbLiveLo | prbLiveHi | prbLivePhase
  | carCfg | carCtrl | carStatus | carFill | carShotSpan | carUnderrunCnt | carSelectCnt | carDirCnt
  | carFirstLo | carFirstHi | carWrLo | carWrHi | carRdLo | carRdHi | wmemEccCnt | dirMem | waveMem
  | acqCtrl | acqStatus | acqOverCnt | acqDetCfg | acqPeakThr | acqMsHigh | acqMsLow | acqDetVal
  | acqDetLevel | acqFreqLo | acqFreqHi | acqPhase | acqChain | acqRsmp | acqInt | acqLine | acqDiscC
  | acqDiscMap | acqSlotStatus | acqSlotDet | acqLast | acqTap | acqWeight
  | rdCtrl | rdStatus | rdPc | rdErrPc | rdInOverCnt | rdRoundMissedCnt | rdHoldoff | rdQueue
  | rdMboxIn | rdMboxOut | rdProg | rdX | rdY
  | pcSynCfg | pcPauliCfg | pcStatus | pcPauliPending | pcLateCnt | pcDropCnt | pcMissingCnt
  | pcMatchCnt | pcFwdCnt | pcPauliCtrl | pcPauliFrame | pcDbitValue | pcDbitValid | pcDbitStale
  | pcDbitInRound | pcDbitTag | pcFc | pcCellCfg | pcCellIn | pcGraph
  | capStatus | capRateDropCnt | capReDropCnt | capMerge | capWatch | capTraceCfg | capTraceMark
  | capGapCnt | snapCtrl | snapPre | snapPost | snapStatus | snapHdr | snapPostLen | snapTrigLo
  | snapTrigHi | snapMissedCnt | snapMem
  | meStatus | mePc | meResume | meRestartCnt | meHostCall | meHostArg | mePatchLevel | meEccCnt
  | ctlStore | entryTable
  | trkEnvStep | trkEnvDrift | trkCtrl | trkStatus | trkShotCnt | trkAbortCnt | trkUpdateCnt
  | trkRefusedCnt | trkLastRefused | trkLastRound | trkItem
  | glDevId | glCtrl | glPeer | glLat | glStatus | glCrcCnt | glLateCnt | glMsgLost | glStale
  | glTxData | glTx | glRxCh | glRxData | glSrc | syncCtrl | syncDelay | syncLoadLo | syncLoadHi
  | syncIgnored
  | ntCfg | ntStatus | ntTimeNs | ntTimeFrac | ntIncFrac | ntIncNs | ntStep | ntServoCfg | ntOffset
  | ntAdj | ntServoCtrl | ntMasterLo | ntMasterHi | ntMasterPort | ntHoldCfg | ntCorr | ntRxHead
  | ntRxTail | ntRxDrop | ntHoldIgn | ntPairHead | ntPair | ntRxInfo | ntRxData | ntLaunch | ntLCtrl
  | ntLOfs | ntLStatus | ntLTxts | ntLData
  | bsCfg | bsCode | bsPeriod | bsPhase | bsSlew | bsSineInc | bsSinePhase | bsSineAmp | bsStatus
  | bsLive | bsNvPwrup | bsNvFault | bsNvCtrl
  | pmCtrl | pmLevel | pmFreqLo | pmFreqHi | pmPhase | pmStatus | pmLive
  | thStatus | thThrottle | thFailLo | thFailHi | thMask | thSkipCnt | thLevelCnt | thTemp
  | recStatus | recSeqNext | recHead | recPermUsed | recLostCnt | recSuppCnt | recNonceLo | recNonceHi
  | recRate | barSerialLo | barSerialHi | barFwVersion | barBootStatus | barTaiLo | barTaiHi
  | barTaiRef | barOpHours | barPowerCycles | nvCmd | nvStatus | nvFwSlot | nvPageBuf | recSlots
  deriving DecidableEq, Repr

/-- Access codes (R11); `sh` names the class of the coherence group (R120). -/
inductive Access where
  | ro | rw | wo | w1c | rc
  | sh (cls : Nat)
  deriving DecidableEq, Repr

/-- A field of a register. Bits outside every field are reserved (R12). -/
structure Field where
  hi : Nat
  lo : Nat
  acc : Access
  reset : Nat := 0
  deriving DecidableEq, Repr

/-- How a word takes part in a two-word read (R29). -/
inductive Pair where
  | none | low | high
  deriving DecidableEq, Repr

/-- A row of the map: words at base + s1·i + s2·j + s3·k. `run`: RW fields accept writes in RUN. The
group instance is (i·ia + j) / ib. -/
structure RegRow where
  kind : RegKind
  base : Nat
  n1 : Nat := 1
  s1 : Nat := 4
  n2 : Nat := 1
  s2 : Nat := 4
  n3 : Nat := 1
  s3 : Nat := 4
  fields : List Field := []
  run : Bool := true
  pair : Pair := .none
  ia : Nat := 1
  ib : Nat := 1
  deriving DecidableEq, Repr

/-- A place in the map: the row and the indices. -/
structure Loc where
  row : RegRow
  i : Nat
  j : Nat
  k : Nat
  deriving DecidableEq, Repr

def fRO (reset : Nat := 0) : List Field := [⟨31, 0, .ro, reset⟩]
def fRW (reset : Nat := 0) : List Field := [⟨31, 0, .rw, reset⟩]
def fRC : List Field := [⟨31, 0, .rc, 0⟩]
def fSH (cls : Nat) (hi : Nat := 31) (reset : Nat := 0) : List Field := [⟨hi, 0, .sh cls, reset⟩]

/-- The device global block (R540, R29, R66, R138, R447). -/
def globalRows : List RegRow := [
  { kind := .gId, base := 0x0, fields := fRO 0x1024B101 },
  { kind := .gMapRev, base := 0x4, fields := [⟨15, 0, .ro, 1⟩] },
  { kind := .gScratch, base := 0x8, fields := fRW },
  { kind := .gMode, base := 0x40, fields := [⟨15, 8, .ro, 0⟩, ⟨5, 5, .ro, 0⟩, ⟨4, 4, .ro, 0⟩, ⟨2, 0, .ro, 1⟩] },
  { kind := .gModeReq, base := 0x44, fields := [⟨3, 0, .wo, 0⟩] },
  { kind := .gResetCause, base := 0x48, fields := [⟨4, 0, .w1c, 0⟩] },
  { kind := .gSleepCtrl, base := 0x4C, fields := [⟨0, 0, .rw, 0⟩] },
  { kind := .gWakeLo, base := 0x50, fields := fRW, pair := .low },
  { kind := .gWakeHi, base := 0x54, fields := fRW, pair := .high },
  { kind := .gFaultPolicy, base := 0x60, fields := [⟨15, 0, .rw, 0⟩], run := false },
  { kind := .gClusterFault, base := 0x64, fields := [⟨15, 0, .w1c, 0⟩] },
  { kind := .gFaultFrameLo, base := 0x68, fields := fRO, pair := .low },
  { kind := .gFaultFrameHi, base := 0x6C, fields := fRO, pair := .high },
  { kind := .gFrameLo, base := 0x100, fields := fRO, pair := .low },
  { kind := .gFrameHi, base := 0x104, fields := fRO, pair := .high },
  { kind := .gRoundLen, base := 0x108, fields := [⟨24, 0, .rw, 0⟩], run := false },
  { kind := .gOriginLo, base := 0x10C, fields := fRW, run := false, pair := .low },
  { kind := .gOriginHi, base := 0x110, fields := fRW, run := false, pair := .high },
  { kind := .gRoundNumLo, base := 0x114, fields := fRO, pair := .low },
  { kind := .gRoundNumHi, base := 0x118, fields := fRO, pair := .high },
  { kind := .gTiming, base := 0x11C, fields := [⟨2, 2, .ro, 0⟩, ⟨1, 1, .ro, 0⟩, ⟨0, 0, .ro, 0⟩] },
  { kind := .trkEnvStep, base := 0x200, n1 := 4, s1 := 8, fields := fSH 0x10 },
  { kind := .trkEnvDrift, base := 0x204, n1 := 4, s1 := 8, fields := fSH 0x10 }]

/-- The host-port block (R106, R564). -/
def hostRows : List RegRow := [
  { kind := .hPortCfg, base := 0x01000000, fields := [⟨5, 4, .rw, 0⟩, ⟨0, 0, .rw, 0⟩], run := false },
  { kind := .hLinkStatus, base := 0x01000004, fields := [⟨11, 8, .w1c, 0⟩, ⟨7, 4, .ro, 0⟩, ⟨3, 0, .ro, 0⟩] },
  { kind := .hMtu, base := 0x01000008, fields := [⟨13, 0, .rw, 1518⟩], run := false },
  { kind := .hVlan, base := 0x0100000C, fields := [⟨16, 16, .rw, 0⟩, ⟨14, 12, .rw, 0⟩, ⟨11, 0, .rw, 0⟩], run := false },
  { kind := .hEpoch, base := 0x01000010, fields := [⟨15, 0, .ro, 0⟩] },
  { kind := .hCplRto, base := 0x01000014, fields := [⟨19, 16, .rw, 8⟩, ⟨15, 0, .rw, 200⟩] },
  { kind := .hAckDelay, base := 0x01000018, fields := [⟨15, 0, .rw, 2000⟩] },
  { kind := .hStreamFlush, base := 0x0100001C, fields := [⟨15, 0, .rw, 2000⟩] },
  { kind := .hLinkLoss, base := 0x01000020, fields := [⟨15, 0, .rw, 0⟩] },
  { kind := .hCplLost, base := 0x01000024, fields := fRC },
  { kind := .hDropCnt, base := 0x01000040, n1 := 8, fields := fRC },
  { kind := .hMacHi, base := 0x01000100, n1 := 4, s1 := 0x40, n2 := 2, s2 := 8, fields := [⟨15, 0, .rw, 0⟩] },
  { kind := .hMacLo, base := 0x01000144, fields := fRW 1 },
  { kind := .hMacLo, base := 0x01000184, fields := fRW 2 },
  { kind := .hMacLo, base := 0x010001C4, fields := fRW 3 },
  { kind := .hMacLo, base := 0x01000104, n1 := 4, s1 := 0x40, n2 := 2, s2 := 8, fields := fRW },
  { kind := .hAddr, base := 0x01000110, n1 := 4, s1 := 0x40, n2 := 10, fields := fRW },
  { kind := .hUdpPorts, base := 0x01000138, n1 := 4, s1 := 0x40, fields := [⟨31, 16, .rw, 0xA820⟩, ⟨15, 0, .rw, 0xA820⟩] },
  { kind := .hIpCfg, base := 0x0100013C, n1 := 4, s1 := 0x40,
    fields := [⟨23, 16, .rw, 0x40⟩, ⟨15, 10, .rw, 0⟩, ⟨1, 1, .rw, 0⟩, ⟨0, 0, .rw, 0⟩] }]

/-- Network time (R483). -/
def ntuRows : List RegRow := [
  { kind := .ntCfg, base := 0x02000000, fields := [⟨5, 4, .rw, 0⟩, ⟨2, 0, .rw, 0⟩] },
  { kind := .ntStatus, base := 0x02000004, fields := [⟨2, 1, .w1c, 0⟩, ⟨0, 0, .ro, 0⟩] },
  { kind := .ntTimeNs, base := 0x02000008, fields := fRO, pair := .low },
  { kind := .ntTimeFrac, base := 0x0200000C, fields := fRO, pair := .high },
  { kind := .ntIncFrac, base := 0x02000010, fields := fRW },
  { kind := .ntIncNs, base := 0x02000014, fields := [⟨7, 0, .rw, 1⟩] },
  { kind := .ntStep, base := 0x02000018, fields := [⟨31, 0, .wo, 0⟩] },
  { kind := .ntServoCfg, base := 0x02000020, fields := [⟨31, 16, .rw, 0x300⟩, ⟨15, 0, .rw, 0x148⟩] },
  { kind := .ntOffset, base := 0x02000024, fields := [⟨31, 0, .wo, 0⟩] },
  { kind := .ntAdj, base := 0x02000028, fields := fRO },
  { kind := .ntServoCtrl, base := 0x0200002C, fields := [⟨2, 1, .wo, 0⟩, ⟨0, 0, .rw, 0⟩] },
  { kind := .ntMasterLo, base := 0x02000030, fields := fRW },
  { kind := .ntMasterHi, base := 0x02000034, fields := fRW },
  { kind := .ntMasterPort, base := 0x02000038, fields := [⟨15, 0, .rw, 0⟩] },
  { kind := .ntHoldCfg, base := 0x0200003C, fields := [⟨15, 0, .rw, 0xBB8⟩] },
  { kind := .ntCorr, base := 0x02000040, n1 := 4, fields := fRW },
  { kind := .ntRxHead, base := 0x02000050, fields := [⟨5, 0, .ro, 0⟩] },
  { kind := .ntRxTail, base := 0x02000054, fields := [⟨5, 0, .rw, 0⟩] },
  { kind := .ntRxDrop, base := 0x02000058, fields := fRC },
  { kind := .ntHoldIgn, base := 0x0200005C, fields := fRC },
  { kind := .ntPairHead, base := 0x02000060, fields := [⟨3, 0, .ro, 0⟩] },
  { kind := .ntPair, base := 0x02000100, n1 := 16, s1 := 0x20, n2 := 5, fields := fRO },
  { kind := .ntRxInfo, base := 0x02010000, n1 := 64, s1 := 0x200, n2 := 3, fields := fRO },
  { kind := .ntRxData, base := 0x02010100, n1 := 64, s1 := 0x200, n2 := 64, fields := fRO },
  { kind := .ntLaunch, base := 0x02020000, n1 := 64, s1 := 0x200, fields := fRW },
  { kind := .ntLCtrl, base := 0x02020004, n1 := 64, s1 := 0x200, fields := [⟨31, 28, .rw, 0⟩, ⟨21, 16, .rw, 0⟩, ⟨8, 0, .rw, 0⟩] },
  { kind := .ntLOfs, base := 0x02020008, n1 := 64, s1 := 0x200, fields := [⟨7, 0, .rw, 0⟩] },
  { kind := .ntLStatus, base := 0x0202000C, n1 := 64, s1 := 0x200, fields := [⟨1, 0, .ro, 0⟩] },
  { kind := .ntLTxts, base := 0x02020010, n1 := 64, s1 := 0x200, n2 := 2, fields := fRO },
  { kind := .ntLData, base := 0x02020100, n1 := 64, s1 := 0x200, n2 := 64, fields := fRW }]

/-- Thermal (R511), recorder, Barista and NV (R533), and the SPI-only recorder window (R521). -/
def platformRows : List RegRow := [
  { kind := .thStatus, base := 0x03000000, fields := [⟨7, 4, .w1c, 0⟩, ⟨1, 0, .ro, 0⟩] },
  { kind := .thThrottle, base := 0x03000004, fields := [⟨17, 16, .rw, 2⟩, ⟨7, 0, .rw, 4⟩] },
  { kind := .thFailLo, base := 0x03000008, fields := fRO, pair := .low },
  { kind := .thFailHi, base := 0x0300000C, fields := fRO, pair := .high },
  { kind := .thMask, base := 0x03000010, fields := fRW },
  { kind := .thMask, base := 0x03000014, fields := [⟨15, 0, .rw, 0⟩] },
  { kind := .thSkipCnt, base := 0x03000018, fields := fRC },
  { kind := .thLevelCnt, base := 0x0300001C, fields := fRC },
  { kind := .thTemp, base := 0x03000100, n1 := 48, fields := [⟨16, 16, .ro, 0⟩, ⟨15, 0, .ro, 0⟩] },
  { kind := .recStatus, base := 0x03000400, fields := [⟨2, 2, .ro, 0⟩, ⟨1, 1, .w1c, 0⟩, ⟨0, 0, .ro, 0⟩] },
  { kind := .recSeqNext, base := 0x03000404, fields := fRO },
  { kind := .recHead, base := 0x03000408, fields := [⟨13, 0, .ro, 0⟩] },
  { kind := .recPermUsed, base := 0x0300040C, fields := [⟨13, 0, .ro, 0⟩] },
  { kind := .recLostCnt, base := 0x03000410, fields := fRC },
  { kind := .recSuppCnt, base := 0x03000414, fields := fRC },
  { kind := .recNonceLo, base := 0x03000418, fields := fRO, pair := .low },
  { kind := .recNonceHi, base := 0x0300041C, fields := fRO, pair := .high },
  { kind := .recRate, base := 0x03000500, n1 := 64, fields := [⟨15, 8, .rw, 0x20⟩, ⟨7, 0, .rw, 0xA⟩] },
  { kind := .barSerialLo, base := 0x03000800, fields := fRO, pair := .low },
  { kind := .barSerialHi, base := 0x03000804, fields := fRO, pair := .high },
  { kind := .barFwVersion, base := 0x03000808, fields := fRO },
  { kind := .barBootStatus, base := 0x0300080C, fields := [⟨2, 2, .ro, 0⟩, ⟨1, 0, .ro, 0⟩] },
  { kind := .barTaiLo, base := 0x03000810, fields := fRW, pair := .low },
  { kind := .barTaiHi, base := 0x03000814, fields := [⟨25, 16, .rw, 0⟩, ⟨15, 0, .rw, 0⟩], pair := .high },
  { kind := .barTaiRef, base := 0x03000818, fields := fRW },
  { kind := .barOpHours, base := 0x03000820, fields := fRO },
  { kind := .barPowerCycles, base := 0x03000824, fields := fRO },
  { kind := .nvCmd, base := 0x03000C00, fields := [⟨31, 31, .wo, 0⟩, ⟨27, 0, .wo, 0⟩] },
  { kind := .nvStatus, base := 0x03000C04, fields := [⟨1, 1, .w1c, 0⟩, ⟨0, 0, .ro, 0⟩] },
  { kind := .nvFwSlot, base := 0x03000C08, fields := [⟨8, 8, .rw, 0⟩, ⟨0, 0, .ro, 0⟩] },
  { kind := .nvPageBuf, base := 0x03001000, n1 := 1024, fields := fRW },
  { kind := .recSlots, base := 0x03100000, n1 := 9216, s1 := 64, n2 := 16, fields := fRO }]

/-- Gollet and SYNC (R467). -/
def golletRows : List RegRow := [
  { kind := .glDevId, base := 0x04000000, fields := [⟨15, 0, .rw, 0⟩] },
  { kind := .syncCtrl, base := 0x04000010, fields := [⟨9, 8, .rw, 0⟩, ⟨7, 4, .rw, 0⟩, ⟨1, 1, .wo, 0⟩, ⟨0, 0, .rw, 0⟩] },
  { kind := .syncDelay, base := 0x04000014, fields := [⟨15, 0, .rw, 0x40⟩] },
  { kind := .syncLoadLo, base := 0x04000018, fields := fRW, pair := .low },
  { kind := .syncLoadHi, base := 0x0400001C, fields := fRW, pair := .high },
  { kind := .syncIgnored, base := 0x04000020, fields := fRC },
  { kind := .glCtrl, base := 0x04000100, n1 := 8, s1 := 0x40, fields := [⟨2, 2, .rw, 0⟩, ⟨1, 1, .wo, 0⟩, ⟨0, 0, .rw, 0⟩] },
  { kind := .glPeer, base := 0x04000104, n1 := 8, s1 := 0x40, fields := [⟨18, 16, .rw, 0⟩, ⟨15, 0, .rw, 0⟩], run := false },
  { kind := .glLat, base := 0x04000108, n1 := 8, s1 := 0x40, fields := [⟨19, 16, .rw, 1⟩, ⟨15, 8, .ro, 0⟩, ⟨7, 0, .rw, 0⟩], run := false },
  { kind := .glStatus, base := 0x0400010C, n1 := 8, s1 := 0x40,
    fields := [⟨21, 16, .ro, 0⟩, ⟨8, 4, .w1c, 0⟩, ⟨3, 3, .ro, 0⟩, ⟨2, 2, .ro, 0⟩, ⟨1, 0, .ro, 0⟩] },
  { kind := .glCrcCnt, base := 0x04000110, n1 := 8, s1 := 0x40, fields := fRC },
  { kind := .glLateCnt, base := 0x04000114, n1 := 8, s1 := 0x40, fields := fRC },
  { kind := .glMsgLost, base := 0x04000118, n1 := 8, s1 := 0x40, fields := fRC },
  { kind := .glStale, base := 0x0400011C, n1 := 8, s1 := 0x40, fields := fRO },
  { kind := .glTxData, base := 0x04000120, n1 := 8, s1 := 0x40, fields := fRW },
  { kind := .glTx, base := 0x04000124, n1 := 8, s1 := 0x40, fields := [⟨7, 0, .wo, 0⟩] },
  { kind := .glRxCh, base := 0x04000128, n1 := 8, s1 := 0x40, fields := [⟨8, 0, .ro, 0⟩] },
  { kind := .glRxData, base := 0x0400012C, n1 := 8, s1 := 0x40, fields := fRO },
  { kind := .glSrc, base := 0x04001000, n1 := 8, s1 := 0x400, n2 := 256, fields := [⟨31, 31, .rw, 0⟩, ⟨12, 0, .rw, 0⟩], run := false }]

/-- Cluster blocks (R174, R283, R428, R447). -/
def clusterRows : List RegRow := [
  { kind := .seqCtrl, base := 0x10000000, n1 := 16, s1 := 0x100000, n2 := 8, s2 := 0x100, fields := [⟨0, 0, .rw, 0⟩], run := false },
  { kind := .seqEntry, base := 0x10000004, n1 := 16, s1 := 0x100000, n2 := 8, s2 := 0x100, fields := [⟨15, 0, .rw, 0⟩], run := false },
  { kind := .seqStatus, base := 0x10000008, n1 := 16, s1 := 0x100000, n2 := 8, s2 := 0x100, fields := [⟨16, 8, .w1c, 0⟩, ⟨2, 0, .ro, 0⟩] },
  { kind := .seqPc, base := 0x1000000C, n1 := 16, s1 := 0x100000, n2 := 8, s2 := 0x100, fields := [⟨15, 0, .ro, 0⟩] },
  { kind := .seqTlLo, base := 0x10000010, n1 := 16, s1 := 0x100000, n2 := 8, s2 := 0x100, fields := fRO, pair := .low },
  { kind := .seqTlHi, base := 0x10000014, n1 := 16, s1 := 0x100000, n2 := 8, s2 := 0x100, fields := fRO, pair := .high },
  { kind := .seqLateCnt, base := 0x10000018, n1 := 16, s1 := 0x100000, n2 := 8, s2 := 0x100, fields := fRC },
  { kind := .seqSelectCnt, base := 0x1000001C, n1 := 16, s1 := 0x100000, n2 := 8, s2 := 0x100, fields := fRC },
  { kind := .seqDbitCnt, base := 0x10000020, n1 := 16, s1 := 0x100000, n2 := 8, s2 := 0x100, fields := fRC },
  { kind := .seqMask, base := 0x10000040, n1 := 16, s1 := 0x100000, n2 := 8, s2 := 0x100, n3 := 7, fields := fSH 0x0B, ia := 8 },
  { kind := .seqMrkMask, base := 0x1000005C, n1 := 16, s1 := 0x100000, n2 := 8, s2 := 0x100, fields := fSH 0x0B 3, ia := 8 },
  { kind := .seqGreg, base := 0x10000080, n1 := 16, s1 := 0x100000, n2 := 8, s2 := 0x100, n3 := 32, fields := fRO },
  { kind := .clusterSeqCfg, base := 0x10000800, n1 := 16, s1 := 0x100000, fields := [⟨0, 0, .rw, 0⟩], run := false },
  { kind := .carCfg, base := 0x10000C00, n1 := 16, s1 := 0x100000, fields := [⟨8, 8, .rw, 0⟩, ⟨3, 0, .rw, 2⟩], run := false },
  { kind := .carCtrl, base := 0x10000C04, n1 := 16, s1 := 0x100000, fields := [⟨0, 0, .wo, 0⟩], run := false },
  { kind := .carStatus, base := 0x10000C08, n1 := 16, s1 := 0x100000, fields := [⟨8, 8, .ro, 0⟩, ⟨2, 0, .w1c, 0⟩] },
  { kind := .carFill, base := 0x10000C0C, n1 := 16, s1 := 0x100000, fields := [⟨23, 0, .ro, 0⟩] },
  { kind := .carShotSpan, base := 0x10000C10, n1 := 16, s1 := 0x100000, fields := [⟨23, 0, .rw, 0⟩], run := false },
  { kind := .carUnderrunCnt, base := 0x10000C14, n1 := 16, s1 := 0x100000, fields := fRC },
  { kind := .carSelectCnt, base := 0x10000C18, n1 := 16, s1 := 0x100000, fields := fRC },
  { kind := .carDirCnt, base := 0x10000C1C, n1 := 16, s1 := 0x100000, fields := fRC },
  { kind := .carFirstLo, base := 0x10000C20, n1 := 16, s1 := 0x100000, fields := fRO, pair := .low },
  { kind := .carFirstHi, base := 0x10000C24, n1 := 16, s1 := 0x100000, fields := fRO, pair := .high },
  { kind := .carWrLo, base := 0x10000C28, n1 := 16, s1 := 0x100000, fields := fRO, pair := .low },
  { kind := .carWrHi, base := 0x10000C2C, n1 := 16, s1 := 0x100000, fields := fRO, pair := .high },
  { kind := .carRdLo, base := 0x10000C30, n1 := 16, s1 := 0x100000, fields := fRO, pair := .low },
  { kind := .carRdHi, base := 0x10000C34, n1 := 16, s1 := 0x100000, fields := fRO, pair := .high },
  { kind := .wmemEccCnt, base := 0x10000C38, n1 := 16, s1 := 0x100000, fields := fRC },
  { kind := .meStatus, base := 0x10001000, n1 := 16, s1 := 0x100000, fields := [⟨23, 16, .ro, 0⟩, ⟨10, 10, .ro, 0⟩, ⟨9, 4, .w1c, 0⟩, ⟨2, 0, .ro, 0⟩] },
  { kind := .mePc, base := 0x10001004, n1 := 16, s1 := 0x100000, fields := [⟨13, 0, .ro, 0⟩] },
  { kind := .meResume, base := 0x10001008, n1 := 16, s1 := 0x100000, fields := [⟨13, 0, .ro, 0⟩] },
  { kind := .meRestartCnt, base := 0x1000100C, n1 := 16, s1 := 0x100000, fields := fRC },
  { kind := .meHostCall, base := 0x10001010, n1 := 16, s1 := 0x100000, fields := [⟨31, 31, .wo, 0⟩, ⟨26, 12, .wo, 0⟩, ⟨7, 0, .wo, 0⟩] },
  { kind := .meHostArg, base := 0x10001014, n1 := 16, s1 := 0x100000, n2 := 4, fields := fRW },
  { kind := .trkCtrl, base := 0x10002000, n1 := 16, s1 := 0x100000, fields := [⟨11, 8, .rw, 0⟩, ⟨3, 0, .rw, 0⟩], run := false },
  { kind := .trkStatus, base := 0x10002004, n1 := 16, s1 := 0x100000, fields := [⟨4, 3, .w1c, 0⟩, ⟨2, 2, .ro, 0⟩, ⟨1, 0, .w1c, 0⟩] },
  { kind := .trkShotCnt, base := 0x10002008, n1 := 16, s1 := 0x100000, fields := fRC },
  { kind := .trkAbortCnt, base := 0x1000200C, n1 := 16, s1 := 0x100000, fields := fRC },
  { kind := .trkUpdateCnt, base := 0x10002010, n1 := 16, s1 := 0x100000, fields := fRC },
  { kind := .trkRefusedCnt, base := 0x10002014, n1 := 16, s1 := 0x100000, fields := fRC },
  { kind := .trkLastRefused, base := 0x10002018, n1 := 16, s1 := 0x100000, fields := [⟨25, 24, .ro, 0⟩, ⟨17, 16, .ro, 0⟩, ⟨5, 0, .ro, 0⟩] },
  { kind := .trkLastRound, base := 0x1000201C, n1 := 16, s1 := 0x100000, fields := fRO },
  { kind := .trkItem, base := 0x10003000, n1 := 16, s1 := 0x100000, n2 := 64, s2 := 0x20, n3 := 8, fields := fRW, run := false },
  { kind := .scratchMem, base := 0x10040000, n1 := 16, s1 := 0x100000, n2 := 16384, fields := fRW },
  { kind := .dirMem, base := 0x10050000, n1 := 16, s1 := 0x100000, n2 := 4096, s2 := 16, fields := fRW },
  { kind := .dirMem, base := 0x10050004, n1 := 16, s1 := 0x100000, n2 := 4096, s2 := 16, fields := [⟨20, 0, .rw, 0⟩] },
  { kind := .dirMem, base := 0x10050008, n1 := 16, s1 := 0x100000, n2 := 4096, s2 := 16, fields := fRW },
  { kind := .dirMem, base := 0x1005000C, n1 := 16, s1 := 0x100000, n2 := 4096, s2 := 16, fields := [⟨12, 0, .rw, 0⟩] },
  { kind := .progMem, base := 0x10080000, n1 := 16, s1 := 0x100000, n2 := 131072, fields := fRW }]

/-- Drive channels and markers (R238). -/
def driveRows : List RegRow := [
  { kind := .drvCtrl, base := 0x20000000, n1 := 256, s1 := 0x10000, fields := [⟨8, 8, .rw, 0⟩, ⟨0, 0, .rw, 0⟩] },
  { kind := .drvGain, base := 0x20000004, n1 := 256, s1 := 0x10000, fields := fSH 0x02 15 0x4000 },
  { kind := .drvSkew, base := 0x20000008, n1 := 256, s1 := 0x10000, fields := fSH 0x02 3 },
  { kind := .drvStatus, base := 0x2000000C, n1 := 256, s1 := 0x10000, fields := [⟨9, 9, .ro, 1⟩, ⟨8, 8, .ro, 0⟩, ⟨4, 0, .w1c, 0⟩] },
  { kind := .drvSatCnt, base := 0x20000010, n1 := 256, s1 := 0x10000, fields := fRC },
  { kind := .drvVoiceAmp, base := 0x20000020, n1 := 256, s1 := 0x10000, n2 := 4, s2 := 0x10, fields := fSH 0x02 15, ib := 4, ia := 4 },
  { kind := .drvVoiceConst, base := 0x20000024, n1 := 256, s1 := 0x10000, n2 := 4, s2 := 0x10, fields := fSH 0x02, ib := 4, ia := 4 },
  { kind := .drvVoiceState, base := 0x20000028, n1 := 256, s1 := 0x10000, n2 := 4, s2 := 0x10, fields := [⟨20, 16, .ro, 0⟩, ⟨0, 0, .ro, 0⟩] },
  { kind := .drvFreqLo, base := 0x20001000, n1 := 256, s1 := 0x10000, n2 := 128, s2 := 0x20, fields := fSH 0x01, ia := 128, pair := .low },
  { kind := .drvFreqHi, base := 0x20001004, n1 := 256, s1 := 0x10000, n2 := 128, s2 := 0x20, fields := fSH 0x01 15, ia := 128, pair := .high },
  { kind := .drvPhase, base := 0x20001008, n1 := 256, s1 := 0x10000, n2 := 128, s2 := 0x20, fields := fSH 0x01, ia := 128 },
  { kind := .drvLiveLo, base := 0x20001010, n1 := 256, s1 := 0x10000, n2 := 128, s2 := 0x20, fields := fRO, pair := .low },
  { kind := .drvLiveHi, base := 0x20001014, n1 := 256, s1 := 0x10000, n2 := 128, s2 := 0x20, fields := [⟨15, 0, .ro, 0⟩], pair := .high },
  { kind := .drvLivePhase, base := 0x20001018, n1 := 256, s1 := 0x10000, n2 := 128, s2 := 0x20, fields := fRO },
  { kind := .mrkCtrl, base := 0x21000000, n1 := 64, s1 := 0x100, fields := [⟨0, 0, .rw, 0⟩] },
  { kind := .mrkCfg, base := 0x21000004, n1 := 64, s1 := 0x100, fields := [⟨31, 16, .sh 0x03, 0⟩, ⟨3, 0, .sh 0x03, 0⟩] },
  { kind := .mrkStatus, base := 0x21000008, n1 := 64, s1 := 0x100, fields := [⟨0, 0, .ro, 0⟩] }]

/-- Flux outputs and probe channels (R259). -/
def fluxProbeRows : List RegRow := [
  { kind := .flxCtrl, base := 0x30000000, n1 := 512, s1 := 0x10000, fields := [⟨0, 0, .rw, 0⟩] },
  { kind := .flxOutCfg, base := 0x30000004, n1 := 512, s1 := 0x10000, fields := [⟨8, 8, .sh 0x04, 0⟩, ⟨2, 0, .sh 0x04, 0⟩] },
  { kind := .flxOffset, base := 0x30000008, n1 := 512, s1 := 0x10000, fields := fSH 0x04 15 },
  { kind := .flxStatus, base := 0x3000000C, n1 := 512, s1 := 0x10000, fields := [⟨9, 9, .ro, 1⟩, ⟨8, 8, .ro, 0⟩, ⟨0, 0, .w1c, 0⟩] },
  { kind := .flxSatCnt, base := 0x30000010, n1 := 512, s1 := 0x10000, fields := fRC },
  { kind := .flxPredCtrl, base := 0x30000014, n1 := 512, s1 := 0x10000, fields := [⟨2, 0, .sh 0x05, 0⟩] },
  { kind := .flxPredStatus, base := 0x30000018, n1 := 512, s1 := 0x10000, fields := [⟨0, 0, .ro, 0⟩] },
  { kind := .flxCoef, base := 0x30000100, n1 := 512, s1 := 0x10000, n2 := 2, s2 := 0x100, n3 := 16, fields := [⟨23, 0, .rw, 0⟩] },
  { kind := .flxTap, base := 0x30000160, n1 := 512, s1 := 0x10000, n2 := 2, s2 := 0x100, fields := [⟨17, 0, .rw, 0x10000⟩] },
  { kind := .flxTap, base := 0x30000140, n1 := 512, s1 := 0x10000, n2 := 2, s2 := 0x100, n3 := 48, fields := [⟨17, 0, .rw, 0⟩] },
  { kind := .prbCtrl, base := 0x38000000, n1 := 32, s1 := 0x10000, fields := [⟨8, 8, .rw, 0⟩, ⟨0, 0, .rw, 0⟩] },
  { kind := .prbGain, base := 0x38000004, n1 := 32, s1 := 0x10000, fields := fSH 0x07 15 0x800 },
  { kind := .prbSkew, base := 0x38000008, n1 := 32, s1 := 0x10000, fields := fSH 0x07 3 },
  { kind := .prbStatus, base := 0x3800000C, n1 := 32, s1 := 0x10000, fields := [⟨9, 9, .ro, 1⟩, ⟨8, 8, .ro, 0⟩, ⟨0, 0, .w1c, 0⟩] },
  { kind := .prbSatCnt, base := 0x38000010, n1 := 32, s1 := 0x10000, fields := fRC },
  { kind := .prbSatVoice, base := 0x38000014, n1 := 32, s1 := 0x10000, fields := [⟨31, 0, .w1c, 0⟩] },
  { kind := .prbVoiceAmp, base := 0x38000100, n1 := 32, s1 := 0x10000, n2 := 32, s2 := 0x10, fields := fSH 0x06 15, ia := 32 },
  { kind := .prbVoiceConst, base := 0x38000104, n1 := 32, s1 := 0x10000, n2 := 32, s2 := 0x10, fields := fSH 0x06, ia := 32 },
  { kind := .prbVoiceState, base := 0x38000108, n1 := 32, s1 := 0x10000, n2 := 32, s2 := 0x10, fields := [⟨20, 16, .ro, 0⟩, ⟨0, 0, .ro, 0⟩] },
  { kind := .prbFreqLo, base := 0x38008000, n1 := 32, s1 := 0x10000, n2 := 1024, s2 := 0x20, fields := fSH 0x06, ia := 1024, ib := 32, pair := .low },
  { kind := .prbFreqHi, base := 0x38008004, n1 := 32, s1 := 0x10000, n2 := 1024, s2 := 0x20, fields := fSH 0x06 15, ia := 1024, ib := 32, pair := .high },
  { kind := .prbPhase, base := 0x38008008, n1 := 32, s1 := 0x10000, n2 := 1024, s2 := 0x20, fields := fSH 0x06, ia := 1024, ib := 32 },
  { kind := .prbLiveLo, base := 0x38008010, n1 := 32, s1 := 0x10000, n2 := 1024, s2 := 0x20, fields := fRO, pair := .low },
  { kind := .prbLiveHi, base := 0x38008014, n1 := 32, s1 := 0x10000, n2 := 1024, s2 := 0x20, fields := [⟨15, 0, .ro, 0⟩], pair := .high },
  { kind := .prbLivePhase, base := 0x38008018, n1 := 32, s1 := 0x10000, n2 := 1024, s2 := 0x20, fields := fRO }]

/-- Acquisition (R313) and the weight window (R301). -/
def acqRows : List RegRow := [
  { kind := .acqCtrl, base := 0x40000000, n1 := 32, s1 := 0x10000, fields := [⟨1, 0, .rw, 1⟩], run := false },
  { kind := .acqStatus, base := 0x40000004, n1 := 32, s1 := 0x10000, fields := [⟨8, 8, .ro, 0⟩, ⟨1, 0, .w1c, 0⟩] },
  { kind := .acqOverCnt, base := 0x40000008, n1 := 32, s1 := 0x10000, fields := fRC },
  { kind := .acqDetCfg, base := 0x40000010, n1 := 32, s1 := 0x10000, fields := [⟨19, 16, .rw, 8⟩, ⟨15, 0, .rw, 0x400⟩], run := false },
  { kind := .acqPeakThr, base := 0x40000014, n1 := 32, s1 := 0x10000, fields := [⟨11, 0, .rw, 0⟩], run := false },
  { kind := .acqMsHigh, base := 0x40000018, n1 := 32, s1 := 0x10000, fields := [⟨23, 0, .rw, 0⟩], run := false },
  { kind := .acqMsLow, base := 0x4000001C, n1 := 32, s1 := 0x10000, fields := [⟨23, 0, .rw, 0⟩], run := false },
  { kind := .acqDetVal, base := 0x40000020, n1 := 32, s1 := 0x10000, n2 := 3, fields := [⟨23, 0, .ro, 0⟩] },
  { kind := .acqDetLevel, base := 0x4000002C, n1 := 32, s1 := 0x10000, fields := [⟨2, 0, .ro, 0⟩] },
  { kind := .acqFreqLo, base := 0x40001000, n1 := 32, s1 := 0x10000, n2 := 32, s2 := 0x80, fields := fSH 0x08, ia := 32, pair := .low },
  { kind := .acqFreqHi, base := 0x40001004, n1 := 32, s1 := 0x10000, n2 := 32, s2 := 0x80, fields := fSH 0x08 15, ia := 32, pair := .high },
  { kind := .acqPhase, base := 0x40001008, n1 := 32, s1 := 0x10000, n2 := 32, s2 := 0x80, fields := fSH 0x08, ia := 32 },
  { kind := .acqChain, base := 0x4000100C, n1 := 32, s1 := 0x10000, n2 := 32, s2 := 0x80, ia := 32,
    fields := [⟨16, 16, .sh 0x09, 0⟩, ⟨13, 8, .sh 0x09, 0⟩, ⟨5, 5, .sh 0x09, 0⟩, ⟨4, 4, .sh 0x09, 0⟩, ⟨1, 0, .sh 0x09, 1⟩] },
  { kind := .acqRsmp, base := 0x40001010, n1 := 32, s1 := 0x10000, n2 := 32, s2 := 0x80, fields := fSH 0x09 31 0x04000000, ia := 32 },
  { kind := .acqInt, base := 0x40001014, n1 := 32, s1 := 0x10000, n2 := 32, s2 := 0x80, ia := 32,
    fields := [⟨25, 25, .sh 0x09, 0⟩, ⟨24, 24, .sh 0x09, 1⟩, ⟨20, 16, .sh 0x09, 0⟩, ⟨12, 0, .sh 0x09, 0⟩] },
  { kind := .acqLine, base := 0x40001020, n1 := 32, s1 := 0x10000, n2 := 32, s2 := 0x80, fields := fSH 0x0A 31 1, ia := 32 },
  { kind := .acqLine, base := 0x40001020, n1 := 32, s1 := 0x10000, n2 := 32, s2 := 0x80, n3 := 3, s3 := 8, fields := fSH 0x0A, ia := 32 },
  { kind := .acqDiscC, base := 0x40001024, n1 := 32, s1 := 0x10000, n2 := 32, s2 := 0x80, n3 := 3, s3 := 8, fields := fSH 0x0A, ia := 32 },
  { kind := .acqDiscMap, base := 0x40001038, n1 := 32, s1 := 0x10000, n2 := 32, s2 := 0x80, fields := fSH 0x0A 15 0x4444, ia := 32 },
  { kind := .acqSlotStatus, base := 0x40001040, n1 := 32, s1 := 0x10000, n2 := 32, s2 := 0x80,
    fields := [⟨9, 9, .ro, 0⟩, ⟨8, 8, .ro, 0⟩, ⟨2, 2, .w1c, 0⟩, ⟨1, 1, .ro, 0⟩, ⟨0, 0, .w1c, 0⟩] },
  { kind := .acqSlotDet, base := 0x40001044, n1 := 32, s1 := 0x10000, n2 := 32, s2 := 0x80, n3 := 3, fields := fRO },
  { kind := .acqLast, base := 0x40001050, n1 := 32, s1 := 0x10000, n2 := 32, s2 := 0x80, n3 := 3, fields := fRO },
  { kind := .acqTap, base := 0x40004000, n1 := 32, s1 := 0x10000, n2 := 64, s2 := 0x100, fields := [⟨17, 0, .rw, 0x10000⟩] },
  { kind := .acqTap, base := 0x40004000, n1 := 32, s1 := 0x10000, n2 := 64, s2 := 0x100, n3 := 64, fields := [⟨17, 0, .rw, 0⟩] },
  { kind := .acqWeight, base := 0x48000000, n1 := 1024, s1 := 0x8000, n2 := 8192, fields := fRW }]

/-- Read-out DSP cores (R319, R344). -/
def rdspRows : List RegRow := [
  { kind := .rdCtrl, base := 0x50000000, n1 := 16, s1 := 0x100000, fields := [⟨1, 0, .rw, 0⟩], run := false },
  { kind := .rdStatus, base := 0x50000004, n1 := 16, s1 := 0x100000,
    fields := [⟨19, 16, .ro, 0⟩, ⟨11, 11, .w1c, 0⟩, ⟨10, 9, .ro, 0⟩, ⟨8, 7, .w1c, 0⟩, ⟨2, 0, .ro, 0⟩] },
  { kind := .rdPc, base := 0x50000008, n1 := 16, s1 := 0x100000, fields := [⟨13, 0, .ro, 0⟩] },
  { kind := .rdErrPc, base := 0x5000000C, n1 := 16, s1 := 0x100000, fields := [⟨13, 0, .ro, 0⟩] },
  { kind := .rdInOverCnt, base := 0x50000010, n1 := 16, s1 := 0x100000, fields := fRC },
  { kind := .rdRoundMissedCnt, base := 0x50000014, n1 := 16, s1 := 0x100000, fields := fRC },
  { kind := .rdHoldoff, base := 0x50000018, n1 := 16, s1 := 0x100000, fields := fRC },
  { kind := .rdQueue, base := 0x5000001C, n1 := 16, s1 := 0x100000, fields := [⟨4, 0, .ro, 0⟩] },
  { kind := .rdMboxIn, base := 0x50000020, n1 := 16, s1 := 0x100000, fields := fRW },
  { kind := .rdMboxOut, base := 0x50000024, n1 := 16, s1 := 0x100000, fields := fRO },
  { kind := .rdProg, base := 0x50040000, n1 := 16, s1 := 0x100000, n2 := 16384, fields := fRW },
  { kind := .rdX, base := 0x50080000, n1 := 16, s1 := 0x100000, n2 := 16384, fields := fRW },
  { kind := .rdY, base := 0x500C0000, n1 := 16, s1 := 0x100000, n2 := 16384, fields := fRW }]

/-- Percolator and graph banks (R373). -/
def percRows : List RegRow := [
  { kind := .pcSynCfg, base := 0x60000000, n1 := 1,
    fields := [⟨31, 24, .sh 0x0D, 0⟩, ⟨23, 16, .sh 0x0D, 0⟩, ⟨5, 4, .sh 0x0D, 1⟩, ⟨3, 0, .sh 0x0D, 0⟩] },
  { kind := .pcPauliCfg, base := 0x60000004, fields := [⟨7, 0, .rw, 8⟩], run := false },
  { kind := .pcStatus, base := 0x60000008, fields := [⟨8, 8, .ro, 0⟩, ⟨4, 0, .w1c, 0⟩] },
  { kind := .pcPauliPending, base := 0x6000000C, fields := [⟨14, 0, .ro, 0⟩] },
  { kind := .pcLateCnt, base := 0x60000010, fields := fRC },
  { kind := .pcDropCnt, base := 0x60000014, fields := fRC },
  { kind := .pcMissingCnt, base := 0x60000018, fields := fRC },
  { kind := .pcMatchCnt, base := 0x6000001C, fields := fRC },
  { kind := .pcFwdCnt, base := 0x60000020, fields := fRC },
  { kind := .pcPauliCtrl, base := 0x60000024, fields := [⟨0, 0, .wo, 0⟩], run := false },
  { kind := .pcPauliFrame, base := 0x60000100, n1 := 64, fields := fRW, run := false },
  { kind := .pcDbitValue, base := 0x60001000, n1 := 256, fields := fRO },
  { kind := .pcDbitValid, base := 0x60001400, n1 := 256, fields := fRO },
  { kind := .pcDbitStale, base := 0x60001800, n1 := 256, fields := fRO },
  { kind := .pcDbitInRound, base := 0x60001C00, n1 := 256, fields := fRO },
  { kind := .pcDbitTag, base := 0x60002000, n1 := 8192, fields := fRO },
  { kind := .pcFc, base := 0x6000C000, n1 := 1024, fields := [⟨13, 12, .rw, 0⟩, ⟨9, 0, .rw, 0⟩], run := false },
  { kind := .pcCellCfg, base := 0x60010000, n1 := 1024, s1 := 0x40,
    fields := [⟨31, 31, .sh 0x0C, 0⟩, ⟨16, 16, .sh 0x0C, 0⟩, ⟨12, 8, .sh 0x0C, 0⟩, ⟨6, 4, .sh 0x0C, 0⟩, ⟨3, 0, .sh 0x0C, 0⟩] },
  { kind := .pcCellIn, base := 0x60010004, n1 := 1024, s1 := 0x40, n2 := 8, ia := 8, ib := 8,
    fields := [⟨31, 31, .sh 0x0C, 0⟩, ⟨28, 16, .sh 0x0C, 0⟩, ⟨15, 15, .sh 0x0C, 0⟩, ⟨12, 0, .sh 0x0C, 0⟩] },
  { kind := .pcGraph, base := 0x60100000, n1 := 2, s1 := 0x100000, n2 := 1024, fields := fRW },
  { kind := .pcGraph, base := 0x60110000, n1 := 2, s1 := 0x100000, n2 := 8192, fields := fRW },
  { kind := .pcGraph, base := 0x60120000, n1 := 2, s1 := 0x100000, n2 := 65536, fields := fRW },
  { kind := .pcGraph, base := 0x60160000, n1 := 2, s1 := 0x100000, n2 := 16384, fields := fRW }]

/-- Capture and streams (R396) and the snapshot memories (R394). -/
def capRows : List RegRow := [
  { kind := .capStatus, base := 0x70000000, fields := [⟨1, 0, .w1c, 0⟩] },
  { kind := .capRateDropCnt, base := 0x70000004, fields := fRC },
  { kind := .capReDropCnt, base := 0x70000008, fields := fRC },
  { kind := .capMerge, base := 0x70000100, n1 := 32, fields := fRW, run := false },
  { kind := .capWatch, base := 0x70000200, n1 := 8, fields := [⟨31, 31, .rw, 0⟩, ⟨7, 0, .rw, 0⟩], run := false },
  { kind := .capTraceCfg, base := 0x70001000, n1 := 64, s1 := 0x10, fields := [⟨31, 31, .rw, 0⟩, ⟨25, 22, .rw, 0⟩, ⟨9, 0, .rw, 0⟩] },
  { kind := .capTraceMark, base := 0x70001004, n1 := 64, s1 := 0x10, fields := [⟨31, 31, .rw, 0⟩, ⟨5, 0, .rw, 0⟩] },
  { kind := .capGapCnt, base := 0x70001008, n1 := 64, s1 := 0x10, fields := fRC },
  { kind := .snapCtrl, base := 0x70002000, n1 := 32, s1 := 0x40, fields := [⟨31, 31, .wo, 0⟩, ⟨30, 30, .rw, 0⟩, ⟨29, 29, .wo, 0⟩, ⟨8, 8, .rw, 0⟩, ⟨5, 0, .rw, 0⟩] },
  { kind := .snapPre, base := 0x70002004, n1 := 32, s1 := 0x40, fields := [⟨16, 0, .rw, 0⟩], run := false },
  { kind := .snapPost, base := 0x70002008, n1 := 32, s1 := 0x40, fields := [⟨16, 0, .rw, 0⟩], run := false },
  { kind := .snapStatus, base := 0x7000200C, n1 := 32, s1 := 0x40, fields := [⟨31, 16, .ro, 0⟩, ⟨3, 3, .w1c, 0⟩, ⟨2, 0, .ro, 0⟩] },
  { kind := .snapHdr, base := 0x70002010, n1 := 32, s1 := 0x40, fields := [⟨16, 0, .ro, 0⟩] },
  { kind := .snapPostLen, base := 0x70002014, n1 := 32, s1 := 0x40, fields := [⟨16, 0, .ro, 0⟩] },
  { kind := .snapTrigLo, base := 0x70002018, n1 := 32, s1 := 0x40, fields := fRO, pair := .low },
  { kind := .snapTrigHi, base := 0x7000201C, n1 := 32, s1 := 0x40, fields := fRO, pair := .high },
  { kind := .snapMissedCnt, base := 0x70002020, n1 := 32, s1 := 0x40, fields := fRC },
  { kind := .snapMem, base := 0x72000000, n1 := 32, s1 := 0x100000, n2 := 262144, fields := fRO }]

/-- Bias and pump outputs (R501). -/
def biasRows : List RegRow := [
  { kind := .bsCfg, base := 0x78000000, n1 := 64, s1 := 0x100, fields := [⟨5, 5, .sh 0x0E, 0⟩, ⟨4, 4, .sh 0x0E, 1⟩, ⟨1, 0, .sh 0x0E, 0⟩] },
  { kind := .bsCode, base := 0x78000004, n1 := 64, s1 := 0x100, fields := fSH 0x0E 19 },
  { kind := .bsPeriod, base := 0x78000008, n1 := 64, s1 := 0x100, fields := fSH 0x0E 23 0x3E8 },
  { kind := .bsPhase, base := 0x7800000C, n1 := 64, s1 := 0x100, fields := fSH 0x0E 23 },
  { kind := .bsSlew, base := 0x78000010, n1 := 64, s1 := 0x100, fields := fSH 0x0E 19 0x100 },
  { kind := .bsSineInc, base := 0x78000014, n1 := 64, s1 := 0x100, fields := fSH 0x0E },
  { kind := .bsSinePhase, base := 0x78000018, n1 := 64, s1 := 0x100, fields := fSH 0x0E },
  { kind := .bsSineAmp, base := 0x7800001C, n1 := 64, s1 := 0x100, fields := fSH 0x0E 19 },
  { kind := .bsStatus, base := 0x78000020, n1 := 64, s1 := 0x100, fields := [⟨9, 8, .ro, 0⟩, ⟨4, 3, .w1c, 0⟩, ⟨2, 0, .ro, 0⟩] },
  { kind := .bsLive, base := 0x78000024, n1 := 64, s1 := 0x100, fields := [⟨19, 0, .ro, 0⟩] },
  { kind := .bsNvPwrup, base := 0x78000028, n1 := 64, s1 := 0x100, fields := [⟨21, 0, .rw, 0⟩], run := false },
  { kind := .bsNvFault, base := 0x7800002C, n1 := 64, s1 := 0x100, fields := [⟨21, 0, .rw, 0⟩], run := false },
  { kind := .bsNvCtrl, base := 0x78000030, n1 := 64, s1 := 0x100, fields := [⟨1, 1, .ro, 0⟩, ⟨0, 0, .wo, 0⟩] },
  { kind := .pmCtrl, base := 0x78010000, n1 := 16, s1 := 0x100, fields := [⟨8, 8, .rw, 0⟩, ⟨0, 0, .rw, 0⟩] },
  { kind := .pmLevel, base := 0x78010004, n1 := 16, s1 := 0x100, fields := fSH 0x0F 15 },
  { kind := .pmFreqLo, base := 0x78010008, n1 := 16, s1 := 0x100, fields := fSH 0x0F, pair := .low },
  { kind := .pmFreqHi, base := 0x7801000C, n1 := 16, s1 := 0x100, fields := fSH 0x0F 15, pair := .high },
  { kind := .pmPhase, base := 0x78010010, n1 := 16, s1 := 0x100, fields := fSH 0x0F },
  { kind := .pmStatus, base := 0x78010014, n1 := 16, s1 := 0x100, fields := [⟨9, 9, .ro, 1⟩, ⟨8, 8, .ro, 0⟩] },
  { kind := .pmLive, base := 0x78010018, n1 := 16, s1 := 0x100, fields := [⟨15, 0, .ro, 0⟩] }]

/-- Waveform slices (R260), control store, entry table and microengine globals (R420, R421, R428). -/
def storeRows : List RegRow := [
  { kind := .waveMem, base := 0x80000000, n1 := 16, s1 := 0x1000000, n2 := 4194304, fields := fRW },
  { kind := .ctlStore, base := 0x90000000, n1 := 16384, s1 := 0x20, n2 := 6, fields := fRW, run := false },
  { kind := .entryTable, base := 0x90080000, n1 := 256, fields := [⟨31, 31, .rw, 0⟩, ⟨13, 0, .rw, 0⟩], run := false },
  { kind := .mePatchLevel, base := 0x90090000, fields := fRO },
  { kind := .meEccCnt, base := 0x90090004, fields := fRC }]

/-- The rows of the region an address lies in (R534). -/
def rowsAt (a : Nat) : List RegRow :=
  if a < 0x01000000 then globalRows
  else if a < 0x02000000 then hostRows
  else if a < 0x03000000 then ntuRows
  else if a < 0x04000000 then platformRows
  else if a < 0x10000000 then golletRows
  else if a < 0x20000000 then clusterRows
  else if a < 0x30000000 then driveRows
  else if a < 0x40000000 then fluxProbeRows
  else if a < 0x50000000 then acqRows
  else if a < 0x60000000 then rdspRows
  else if a < 0x70000000 then percRows
  else if a < 0x78000000 then capRows
  else if a < 0x80000000 then biasRows
  else storeRows

/-- The place of address `a` in row `r`, if it has one. -/
def RegRow.find (r : RegRow) (a : Nat) : Option Loc :=
  if a < r.base then none else
  let d := a - r.base
  let i := if r.n1 = 1 then 0 else d / r.s1
  let d1 := d - i * r.s1
  let j := if r.n2 = 1 then 0 else d1 / r.s2
  let d2 := d1 - j * r.s2
  let k := if r.n3 = 1 then 0 else d2 / r.s3
  if i < r.n1 ∧ j < r.n2 ∧ k < r.n3 ∧ d2 = k * r.s3 then some ⟨r, i, j, k⟩ else none

/-- The place an aligned address names, or none where the map holds nothing (R535, R536). -/
def locate (a : Nat) : Option Loc :=
  if a % 4 ≠ 0 then none else firstSome (rowsAt a) (fun r => r.find a)

/-- A row's reset word (R12). -/
def RegRow.resetWord (r : RegRow) : Nat := r.fields.foldl (fun n f => n + f.reset * 2 ^ f.lo) 0

/-- The reset word at an address; 0 where nothing is mapped. -/
def resetWord (a : Nat) : Word :=
  match locate a with
  | some l => BitVec.ofNat 32 l.row.resetWord
  | none => 0

/-- The group identifier a place belongs to (R120), when it has shadow fields. -/
def Loc.group (l : Loc) : Option Nat :=
  firstSome l.row.fields (fun f => match f.acc with
    | .sh cls => some (cls * 2 ^ 24 + (l.i * l.row.ia + l.j) / l.row.ib)
    | _ => none)

/-- The base address of the block of R534 that an address lies in; an address outside every block is
given as itself. -/
def blockOf (a : Nat) : Nat :=
  if a < 0x1000 then 0
  else if 0x10000000 ≤ a ∧ a < 0x11000000 then a / 0x100000 * 0x100000
  else if 0x20000000 ≤ a ∧ a < 0x21000000 then a / 0x10000 * 0x10000
  else if 0x21000000 ≤ a ∧ a < 0x21004000 then a / 0x100 * 0x100
  else if 0x30000000 ≤ a ∧ a < 0x32000000 then a / 0x10000 * 0x10000
  else if 0x38000000 ≤ a ∧ a < 0x38200000 then a / 0x10000 * 0x10000
  else if 0x40000000 ≤ a ∧ a < 0x40200000 then a / 0x10000 * 0x10000
  else if 0x48000000 ≤ a ∧ a < 0x4A000000 then a / 0x8000 * 0x8000
  else if 0x50000000 ≤ a ∧ a < 0x51000000 then a / 0x100000 * 0x100000
  else if 0x60000000 ≤ a ∧ a < 0x60020000 then 0x60000000
  else if 0x60100000 ≤ a ∧ a < 0x60300000 then a / 0x100000 * 0x100000
  else if 0x70000000 ≤ a ∧ a < 0x70003000 then 0x70000000
  else if 0x72000000 ≤ a ∧ a < 0x74000000 then a / 0x100000 * 0x100000
  else if 0x78000000 ≤ a ∧ a < 0x78004000 then a / 0x100 * 0x100
  else if 0x78010000 ≤ a ∧ a < 0x78011000 then a / 0x100 * 0x100
  else if 0x80000000 ≤ a ∧ a < 0x90000000 then a / 0x1000000 * 0x1000000
  else if 0x90000000 ≤ a ∧ a < 0x90080000 then 0x90000000
  else if 0x90080000 ≤ a ∧ a < 0x90080400 then 0x90080000
  else if 0x90090000 ≤ a ∧ a < 0x90090008 then 0x90090000
  else if 0x01000000 ≤ a ∧ a < 0x01000200 then 0x01000000
  else if 0x02000000 ≤ a ∧ a < 0x02028000 then 0x02000000
  else if 0x03000000 ≤ a ∧ a < 0x03002000 then 0x03000000
  else if 0x03100000 ≤ a ∧ a < 0x03190000 then 0x03100000
  else if 0x04000000 ≤ a ∧ a < 0x04003000 then 0x04000000
  else a

/-- Whether a word is kept in the byte memory rather than among the register words: the addressed
memories that reset to nothing listed. -/
def RegKind.inMem : RegKind → Bool
  | .scratchMem | .progMem | .dirMem | .waveMem | .rdProg | .rdX | .rdY | .pcGraph | .snapMem
  | .ctlStore | .ntRxInfo | .ntRxData | .ntLData | .nvPageBuf | .recSlots => true
  | _ => false

end Sys2Proof.Machine
end

