-- ==== Sys2Proof/Machine/Ops.lean ====
section
/-!
DEFINITION. The shared operations over the state: registers, byte memory, units, time, D-bits, records
and streams, completions, the recorder, containment and entry to SAFE.
-/
namespace Sys2Proof.Machine

/-! ## Addresses (R536) -/

/-- A register of sequencer `q` (R174). -/
def aSeq (q o : Nat) : Nat := 0x10000000 + 0x100000 * (q / 8) + 0x100 * (q % 8) + o
/-- An offset in the block of cluster `c`. -/
def aCl (c o : Nat) : Nat := 0x10000000 + 0x100000 * c + o
def aDrv (n o : Nat) : Nat := 0x20000000 + 0x10000 * n + o
def aMrk (m o : Nat) : Nat := 0x21000000 + 0x100 * m + o
def aFlx (n o : Nat) : Nat := 0x30000000 + 0x10000 * n + o
def aPrb (n o : Nat) : Nat := 0x38000000 + 0x10000 * n + o
def aAcq (n o : Nat) : Nat := 0x40000000 + 0x10000 * n + o
/-- A register of slot index `i` (R313). -/
def aSlot (i o : Nat) : Nat := 0x40001000 + 0x10000 * (i / 32) + 0x80 * (i % 32) + o
def aRd (c o : Nat) : Nat := 0x50000000 + 0x100000 * c + o
def aGl (p o : Nat) : Nat := 0x04000100 + 0x40 * p + o
def aBias (b o : Nat) : Nat := 0x78000000 + 0x100 * b + o
def aPump (p o : Nat) : Nat := 0x78010000 + 0x100 * p + o
def aSnap (n o : Nat) : Nat := 0x70002000 + 0x40 * n + o
def aTrace (t o : Nat) : Nat := 0x70001000 + 0x10 * t + o
def aHostSet (k o : Nat) : Nat := 0x01000100 + 0x40 * k + o
def aLaunch (i o : Nat) : Nat := 0x02020000 + 0x200 * i + o
/-- Byte `b` of the waveform slice of cluster `c` (R260). -/
def aWave (c b : Nat) : Nat := 0x80000000 + 0x1000000 * c + b
/-- Word `w` of directory entry `e` (R265). -/
def aDir (e w : Nat) : Nat :=
  0x10000000 + 0x100000 * (e / 4096) + 0x50000 + 16 * (e % 4096) + 4 * w

/-! ## Registers and memory -/

/-- The stored word of a register. -/
def State.reg (s : State) (a : Nat) : Word := sget (resetWord a) s.regs a

/-- The stored word of a register, as a number. -/
def State.regN (s : State) (a : Nat) : Nat := (s.reg a).toNat

/-- Bits of a stored register word. -/
def State.fld (s : State) (a hi lo : Nat) : Nat := bitsOf (s.regN a) hi lo

/-- The register takes a word. -/
def State.setReg (s : State) (a : Nat) (v : Word) : State :=
  { s with regs := sset (resetWord a) s.regs a v }

/-- The register takes a number's low 32 bits. -/
def State.setRegN (s : State) (a v : Nat) : State := s.setReg a (BitVec.ofNat 32 v)

/-- Bits of a register take a value. -/
def State.setFld (s : State) (a hi lo v : Nat) : State := s.setRegN a (withBits (s.regN a) hi lo v)

/-- Whether a word belongs to the acquisition inputs (R536). -/
def isAcq (a : Nat) : Bool := decide (0x40000000 ≤ a ∧ a < 0x50000000)

/-- What a word was at the end of the frame before (R539). -/
def State.before (s : State) (a : Nat) : Word := sget (resetWord a) s.was a

/-- What a word of a datapath was `k` frames ago, at the end of that frame. -/
def State.wordAgo (s : State) (a k : Nat) : Word :=
  (firstSome (if isAcq a then s.acqPast else s.past)
    (fun o => if o.2.1 = a ∧ s.ticks < o.1 + k then some o.2.2 else none)).getD
    (if k = 0 then s.reg a else s.before a)

/-- How far the frame counter lags the ticks at tick `t`. -/
def State.lagAt (s : State) (t : Nat) : Int :=
  (firstSome s.jumps (fun j => if j.1 ≤ t then some j.2 else none)).getD 0

/-- Whether an epoch has numbered this frame anew (R461). -/
def State.reloaded (s : State) : Bool :=
  match s.jumps with
  | j :: _ => decide (j.1 = s.ticks)
  | [] => false

/-- The number of the frame of tick `t`. -/
def State.numberAt (s : State) (t : Nat) : Nat := ((t : Int) - s.lagAt t).toNat

/-- A number that the frame of tick `t` alone has, across resets and epochs: what the world outside does is indexed by
it (log entry 8). -/
def State.moment (s : State) (t : Nat) : Nat := s.boots * 2 ^ 64 + t

/-- What an access of this frame to word `a` of protected memory `m` meets (R127, R264; log entry 8). -/
def State.ecc (s : State) (m a : Nat) : Ecc := Config.eccAt m a (s.moment s.ticks)

/-- A flag is raised. -/
def State.raise (s : State) (a b : Nat) : State := s.setFld a b b 1

/-- A saturating counter counts `n` (R539). -/
def State.count (s : State) (a n : Nat) : State := s.setRegN a (min (2 ^ 32 - 1) (s.regN a + n))

/-- A two-word register's value. -/
def State.reg64 (s : State) (a : Nat) : Nat := s.regN a + 2 ^ 32 * s.regN (a + 4)

/-- A two-word register takes a value. -/
def State.setReg64 (s : State) (a v : Nat) : State :=
  (s.setRegN a v).setRegN (a + 4) (v / 2 ^ 32)

/-- The baseline of a tracked word becomes its live value (R443). -/
def State.setBaseline (s : State) (a : Nat) (v : Word) : State :=
  { s with baselines := sset 0 s.baselines a v }

/-- The baseline of a tracked word (R443). -/
def State.baseline (s : State) (a : Nat) : Word := sget 0 s.baselines a

/-- The byte of memory at an address; a byte nothing has written reads 0 (log entry 6). -/
def State.byteAt (s : State) (a : Nat) : Byte := sget 0 s.mem a

/-- A byte of memory is stored. -/
def State.setByte (s : State) (a : Nat) (b : Byte) : State := { s with mem := sset 0 s.mem a b }

/-- Bytes are stored from an address upward. -/
def State.setBytes (s : State) (a : Nat) (l : List Byte) : State :=
  match l with
  | [] => s
  | b :: t => (s.setByte a b).setBytes (a + 1) t

/-- `n` bytes of memory from an address. -/
def State.bytesAt (s : State) (a n : Nat) : List Byte := (List.range n).map (fun i => s.byteAt (a + i))

/-- The 32-bit word of memory at an address, byte at the lowest address in [7:0] (R10). -/
def State.memWord (s : State) (a : Nat) : Nat := leNat (s.bytesAt a 4)

/-- A 32-bit word of memory is stored. -/
def State.setMemWord (s : State) (a v : Nat) : State := s.setBytes a (leBytes 4 v)

/-! ## Units -/

def State.seq (s : State) (q : Nat) : Seq := sget .init s.seqs q
def State.setSeq (s : State) (q : Nat) (v : Seq) : State := { s with seqs := sset .init s.seqs q v }
def State.modSeq (s : State) (q : Nat) (f : Seq → Seq) : State := s.setSeq q (f (s.seq q))
def State.cl (s : State) (c : Nat) : Cluster := sget .init s.clusters c
def State.modCl (s : State) (c : Nat) (f : Cluster → Cluster) : State :=
  { s with clusters := supd .init s.clusters c f }
def State.tq (s : State) (k : Nat) : TQueue := sget .init s.tqueues k
def State.modTq (s : State) (k : Nat) (f : TQueue → TQueue) : State :=
  { s with tqueues := supd .init s.tqueues k f }
def State.slot (s : State) (i : Nat) : Slot := sget .init s.slots i
def State.modSlot (s : State) (i : Nat) (f : Slot → Slot) : State :=
  { s with slots := supd .init s.slots i f }
def State.input (s : State) (n : Nat) : Input := sget .init s.inputs n
def State.modInput (s : State) (n : Nat) (f : Input → Input) : State :=
  { s with inputs := supd .init s.inputs n f }
def State.dbit (s : State) (i : Nat) : DBit := sget .init s.dbits i
def State.rd (s : State) (c : Nat) : Rdsp := sget .init s.rdsps c
def State.modRd (s : State) (c : Nat) (f : Rdsp → Rdsp) : State :=
  { s with rdsps := supd .init s.rdsps c f }
def State.me (s : State) (c : Nat) : Me := sget .init s.mes c
def State.modMe (s : State) (c : Nat) (f : Me → Me) : State := { s with mes := supd .init s.mes c f }
def State.trk (s : State) (c : Nat) : Trk := sget .init s.trks c
def State.modTrk (s : State) (c : Nat) (f : Trk → Trk) : State :=
  { s with trks := supd .init s.trks c f }
def State.gol (s : State) (p : Nat) : Gol := sget .init s.gols p
def State.modGol (s : State) (p : Nat) (f : Gol → Gol) : State :=
  { s with gols := supd .init s.gols p f }
def State.bias (s : State) (b : Nat) : Bias := sget .init s.biases b
def State.modBias (s : State) (b : Nat) (f : Bias → Bias) : State :=
  { s with biases := supd .init s.biases b f }
def State.marker (s : State) (m : Nat) : Marker := sget .init s.markers m
def State.modMarker (s : State) (m : Nat) (f : Marker → Marker) : State :=
  { s with markers := supd .init s.markers m f }
def State.hq (s : State) (q : Nat) : HostQ := sget .init s.host.queues q
def State.modHq (s : State) (q : Nat) (f : HostQ → HostQ) : State :=
  { s with host := { s.host with queues := supd .init s.host.queues q f } }
def State.hport (s : State) (k : Nat) : Port := sget .init s.host.ports k
def State.modPort (s : State) (k : Nat) (f : Port → Port) : State :=
  { s with host := { s.host with ports := supd .init s.host.ports k f } }
def State.snap (s : State) (n : Nat) : Snap := sget .init s.cap.snap n
def State.modSnap (s : State) (n : Nat) (f : Snap → Snap) : State :=
  { s with cap := { s.cap with snap := supd .init s.cap.snap n f } }
def State.trace (s : State) (t : Nat) : Trace := sget .init s.cap.trace t
def State.modTrace (s : State) (t : Nat) (f : Trace → Trace) : State :=
  { s with cap := { s.cap with trace := supd .init s.cap.trace t f } }
def State.launch (s : State) (i : Nat) : Launch := sget .init s.ntu.launch i
def State.modLaunch (s : State) (i : Nat) (f : Launch → Launch) : State :=
  { s with ntu := { s.ntu with launch := supd .init s.ntu.launch i f } }

/-- The output stages: channel `n` of a class. -/
def stageKey (c : OutClass) (n : Nat) : Nat :=
  match c with
  | .drv => n
  | .prb => 1024 + n
  | .flx => 2048 + n
  | .pump => 4096 + n

def State.stage (s : State) (c : OutClass) (n : Nat) : Stage := sget .init s.stages (stageKey c n)
def State.modStage (s : State) (c : OutClass) (n : Nat) (f : Stage → Stage) : State :=
  { s with stages := supd .init s.stages (stageKey c n) f }

/-- A fresh number for a free value (log entry 9). -/
def State.fresh (s : State) : Nat × State := (s.freeCtr, { s with freeCtr := s.freeCtr + 1 })

/-! ## Time and rounds (R19, R23, R24) -/

def State.roundLen (s : State) : Nat := s.regN 0x108
def State.origin (s : State) : Nat := s.reg64 0x10C

/-- Whether a round is in progress in frame `f` (R23). -/
def State.inRoundAt (s : State) (f : Nat) : Bool := s.roundLen ≠ 0 && decide (s.origin ≤ f)

/-- The number of the round in progress in frame `f`; 0 while none is. -/
def State.roundAt (s : State) (f : Nat) : Nat :=
  if s.inRoundAt f then (f - s.origin) / s.roundLen else 0

/-- Whether frame `f` is a round boundary. -/
def State.isBoundary (s : State) (f : Nat) : Bool :=
  s.inRoundAt f && (f - s.origin) % s.roundLen == 0

/-- The first round boundary at or after frame `f`; none while there are no rounds. -/
def State.boundaryFrom (s : State) (f : Nat) : Option Nat :=
  if s.roundLen = 0 then none
  else if f ≤ s.origin then some s.origin
  else some (s.origin + ((f - s.origin + s.roundLen - 1) / s.roundLen) * s.roundLen)

/-- The code of a mode (R40). -/
def Mode.code : Mode → Nat
  | .reset => 0 | .boot => 1 | .ready => 2 | .run => 3 | .sleep => 4 | .safe => 5

/-- The code of a completion status (R101). -/
def Status.code : Status → Nat
  | .ok => 0 | .aborted => 1 | .staleEpoch => 2 | .zeroRefused => 3 | .liveWriteRefused => 4
  | .rangeRefused => 5 | .modeRefused => 6 | .bootIncomplete => 7 | .addrRefused => 8
  | .lengthRefused => 9 | .opcodeRefused => 10 | .lateStart => 11 | .authRefused => 12
  | .resendExpired => 13 | .eccUncorr => 14 | .dirInvalid => 15

/-- Whether cluster `c` is contained (R129). -/
def State.contained (s : State) (c : Nat) : Bool := bitOf (s.regN 0x64) c

/-- The recovery epoch E. -/
def State.epoch (s : State) : Nat := s.fld 0x01000010 15 0

/-- Whether the host port accepts Abral traffic (R53, R65). -/
def State.hostUp (s : State) : Bool := decide (s.mode ≠ .reset) && decide (2 ≤ s.boot.step)

/-- Whether configuration writes are permitted (R59, R516). -/
def State.cfgMode (s : State) : Bool :=
  match s.mode with
  | .ready | .run | .sleep | .safe => true
  | _ => false

/-! ## Cyclic redundancy checks -/

/-- One bit of a reflected CRC-32C (R83). -/
def crc32cBit (c : Nat) : Nat := if c % 2 = 1 then Nat.xor (c / 2) 0x82F63B78 else c / 2

/-- CRC-32C of bytes (R83). -/
def crc32c (l : List Byte) : Nat :=
  Nat.xor 0xFFFFFFFF
    (l.foldl (fun c b => repeatN 8 crc32cBit (Nat.xor c b.toNat)) 0xFFFFFFFF)

/-- CRC-16 with polynomial 0x1021 over bits, first bit first (R451). -/
def crc16Bits (l : List Bool) : Nat :=
  l.foldl (fun c b =>
    let x := bitOf c 15 != b
    let c1 := c * 2 % 65536
    if x then Nat.xor c1 0x1021 else c1) 0xFFFF

/-- A byte's bits, most significant first. -/
def byteBits (b : Byte) : List Bool := (List.range 8).map (fun i => b.toNat.testBit (7 - i))

/-- CRC-16 over bytes, each from bit 7 down (R524). -/
def crc16 (l : List Byte) : Nat := crc16Bits (l.flatMap byteBits)

/-! ## D-bits (R345 to R348) -/

/-- A change of D-bit `i`, remembered for the readers that see it 2 frames later. -/
def State.putDbit (s : State) (i : Nat) (d : DBit) : State :=
  if d = s.dbit i then s
  else { s with dbits := sset .init s.dbits i d, dlog := ⟨s.ticks, i, s.dbit i⟩ :: s.dlog }

/-- A write of D-bit `i`: its frame is remembered even where nothing changes (R358). -/
def State.storeDbit (s : State) (i : Nat) (d : DBit) : State :=
  { s with dbits := sset .init s.dbits i d, dlog := ⟨s.ticks, i, s.dbit i⟩ :: s.dlog }

/-- A write of a D-bit by its writer (R346, R347); the stale flag is not the writer's. -/
def State.writeDbit (s : State) (i : Nat) (v : Bool) : State :=
  s.storeDbit i { s.dbit i with
    value := v, valid := true, inRound := s.inRoundAt s.frame,
    tag := BitVec.ofNat 32 (s.roundAt s.frame) }

/-- The valid flag of a D-bit is cleared; value and tag are kept (R347). -/
def State.clearDbit (s : State) (i : Nat) : State := s.putDbit i { s.dbit i with valid := false }

/-- A D-bit as queues, sequencers and microengines see it: as it stood 2 frames before (R347). -/
def State.dbitSeen (s : State) (i : Nat) : DBit :=
  s.dlog.foldl (fun d c => if c.idx = i ∧ s.ticks < c.tick + 2 then c.old else d) (s.dbit i)

/-- The round check in frame `f` (R346). -/
def State.passesRound (s : State) (f : Nat) (d : DBit) : Bool :=
  s.inRoundAt f && d.inRound && d.tag == BitVec.ofNat 32 (s.roundAt f)

/-- Whether a D-bit as seen is valid for a select, a BRD or a WAITD (R164); the round check is judged
two frames before. -/
def State.dbitReady (s : State) (i : Nat) (rc : Bool) : Bool :=
  let d := s.dbitSeen i
  d.valid && !d.stale && (!rc || (decide (2 ≤ s.frame) && s.passesRound (s.frame - 2) d))

/-- The cluster whose slots, core or sequencers write D-bit `i`, if one does (R345). -/
def dbitCluster (i : Nat) : Option Nat :=
  if i < 2048 then some (i / 128)
  else if i < 3072 then some ((i - 2048) / 64)
  else if 7168 ≤ i ∧ i < 8192 then some ((i - 7168) / 64)
  else none

/-- The writes in flight that fall due take effect in the D-bit space, oldest first. -/
def State.landDbits (s : State) : State :=
  let due := s.dwrites.filter (fun w => decide (w.due ≤ s.frame))
  let s1 := { s with dwrites := s.dwrites.filter (fun w => decide (s.frame < w.due)) }
  forEach due (fun w s => if w.clear then s.clearDbit w.idx else s.writeDbit w.idx w.value) s1

/-- The X and Z bits of qubit `q` in the Pauli frame (R354). -/
def State.pauli (s : State) (q : Nat) : Bool × Bool :=
  let w := s.regN (0x60000100 + 4 * (q / 16))
  (bitOf w (2 * (q % 16)), bitOf w (2 * (q % 16) + 1))

/-- Pauli-frame bits of qubit `q` are toggled. -/
def State.togglePauli (s : State) (q : Nat) (x z : Bool) : State :=
  let a := 0x60000100 + 4 * (q / 16)
  s.setRegN a (Nat.xor (s.regN a)
    (b2n x * 2 ^ (2 * (q % 16)) + b2n z * 2 ^ (2 * (q % 16) + 1)))

/-! ## The host port's transmit side -/

/-- Whether the port is split (R71). -/
def State.split (s : State) : Bool := s.fld 0x01000000 0 0 = 1

/-- The port of command queue `q` (R71). -/
def State.queuePort (s : State) (q : Nat) : Nat := if s.split then q / 16 else 0

/-- The port of RESULT and EVENT (R71). -/
def State.streamPort (s : State) : Nat := if s.split then s.fld 0x01000000 5 4 else 0

/-- Whether port `k` runs in bootstrap, which ends with the frame after the write that ends it (R78). -/
def State.bootstrap (s : State) (k : Nat) : Bool :=
  s.fld (aHostSet k 0x3C) 0 0 = 0 || decide (s.frame < (s.hport k).filterFrom)

/-- Whether what port `k` sends goes over IPv6: a reply in bootstrap over the version of its cause (R78). -/
def State.sendsV6 (s : State) (k : Nat) (peer : Option Peer) : Bool :=
  match (if s.bootstrap k then peer else none) with
  | some p => p.v6
  | none => s.fld (aHostSet k 0x3C) 1 1 = 1

/-- Bytes of framing around an Abral payload on port `k` (R84). -/
def State.framing (s : State) (k : Nat) (peer : Option Peer) : Nat :=
  18 + (if s.fld 0x0100000C 16 16 = 1 then 4 else 0) + (if s.sendsV6 k peer then 40 else 20) + 8 + 32

/-- The largest payload transmitted on port `k` (R84). -/
def State.maxPayload (s : State) (k : Nat) (peer : Option Peer) : Nat :=
  min 8192 (s.fld 0x01000008 13 0 - s.framing k peer)

/-- The MAC address that a pair of address words holds (R106). -/
def State.macAt (s : State) (a : Nat) : BitVec 48 :=
  BitVec.ofNat 48 (s.fld a 15 0 * 2 ^ 32 + s.regN (a + 4))

/-- An IPv6 address of four words, word 0 the most significant (R106). -/
def State.ipv6At (s : State) (a : Nat) : BitVec 128 :=
  BitVec.ofNat 128 (((s.regN a * 2 ^ 32 + s.regN (a + 4)) * 2 ^ 32 + s.regN (a + 8)) * 2 ^ 32
    + s.regN (a + 12))

/-- The network header of an Abral frame sent on port `k`: from the address set, or in bootstrap to the sender of the
frame that caused it; the device's own MAC and IP address come from the address set in both cases (R76, R78, R79).
From which UDP port such a reply goes is not stated: it is the set's DEV_PORT (DESIGN CHOICE, log entry 11). -/
def State.netHeader (s : State) (k : Nat) (peer : Option Peer) : NetHeader :=
  let cfg := s.regN (aHostSet k 0x3C)
  let ports := s.regN (aHostSet k 0x38)
  let own := s.macAt (aHostSet k 0)
  let vlan := s.regN 0x0100000C
  let tag : Option (BitVec 16) :=
    if bitOf vlan 16 then some (BitVec.ofNat 16 (bitsOf vlan 14 12 * 2 ^ 13 + bitsOf vlan 11 0)) else none
  let ttl := BitVec.ofNat 8 (bitsOf cfg 23 16)
  let dscp := BitVec.ofNat 6 (bitsOf cfg 15 10)
  let sport := BitVec.ofNat 16 (bitsOf ports 15 0)
  let v6 := s.sendsV6 k peer
  let addr (o4 o6 : Nat) : BitVec 128 :=
    if v6 then s.ipv6At (aHostSet k o6) else BitVec.ofNat 128 (s.regN (aHostSet k o4))
  match (if s.bootstrap k then peer else none) with
  | some p => ⟨p.mac, own, tag, v6, addr 0x10 0x18, p.ip, ttl, dscp, sport, p.port⟩
  | none => ⟨s.macAt (aHostSet k 8), own, tag, v6, addr 0x10 0x18, addr 0x14 0x28, ttl, dscp, sport,
      BitVec.ofNat 16 (bitsOf ports 31 16)⟩

/-- Bytes of a frame on the wire with preamble and gap (R103); a frame has at least 64 (R73). -/
def State.wireBytes (s : State) (k n : Nat) (peer : Option Peer) : Nat := max 64 (s.framing k peer + n) + 20

/-- Whether a waiting frame is one that STREAM_RESEND has queued (R104). -/
def TxFrame.isReplay (f : TxFrame) : Bool := f.kind == .reply && decide (0x80 ≤ f.opcode.toNat)

/-- A frame joins the frames waiting for a port. -/
def State.queueTx (s : State) (k : Nat) (t : TxFrame) : State :=
  s.modPort k (fun p => { p with waiting := p.waiting ++ [t] })

/-- The acknowledgement a datagram of queue `q` carries (R88). -/
def State.ackOf (s : State) (q : Nat) : Word := (s.hq q).expect - 1

/-- A reply datagram of queue `q`; it carries the acknowledgement unless `noAck` (R88, R92). While the port is
down none is sent, and a completion is held for its resend (R75). -/
def State.sendReply (s : State) (q : Nat) (op status : Nat) (seq tag arg : Word) (pl : List Byte)
    (resent noAck : Bool) (peer : Option Peer) : State :=
  let k := s.queuePort q
  let f : TxFrame :=
    { net := some (s.netHeader k peer), kind := .reply, queue := BitVec.ofNat 8 q, opcode := BitVec.ofNat 8 op,
      status := BitVec.ofNat 8 status,
      flags := BitVec.ofNat 16 ((if noAck then 0 else 4) + (if resent then 64 else 0)),
      epoch := BitVec.ofNat 16 s.epoch, seq := seq, ack := if noAck then 0 else s.ackOf q,
      tag := tag, arg := arg, payload := pl, wire := s.wireBytes k pl.length peer, gen := 0 }
  if !(s.hport k).up then s
  else if noAck then s.queueTx k f
  else (s.queueTx k f).modHq q (fun h => if s.bootstrap k && peer != h.peer then h else { h with ackFrom := none })

/-- A lone acknowledgement of queue `q` (R88). -/
def State.sendAck (s : State) (q : Nat) : State := 
  s.sendReply q 0 0 0 0 0 [] false false (s.hq q).peer

/-! ## Completions (R89, R94, R100) -/

/-- The OPCODE field of a completion (R94, R100). -/
def cplOpcode (op : Byte) : Nat := if op.toNat ≤ 0x3F then op.toNat + 0x40 else 0x7F

/-- Whether QUIET silences a success of this command (R94). -/
def quietable (op : Nat) : Bool := op ≠ 2 && op ≠ 6 && op ≠ 0xB && op ≠ 0xE && op ≠ 0xD

/-- Whether a command taken in is a RECOVER (R95, R100). -/
def Taken.isRecover (t : Taken) : Bool := decide (t.op = 0x0D ∧ t.queueByte.toNat < 64)

/-- The first RECOVER taken in after order `n` that waits: it is pending where none before it is (R114). -/
def State.nextRecover (s : State) (n : Nat) : Option Taken :=
  (sortBy Taken.order (s.host.queues.flatMap (fun (q : Nat × HostQ) =>
    q.2.waiting.filter (fun t => t.isRecover && decide (n < t.order))))).head?

/-- The command leaves the command unit, and its completion is formed (R89, R94, R107). The interval of R89 counts from
the frame in which it joins the frames waiting for its port (DESIGN CHOICE, log entry 68). -/
def State.complete (s : State) (t : Taken) (st : Status) (pl : List Byte) : State :=
  let q := t.cmd.queue.val
  let s0 := { s with host := { s.host with
    recover := if s.host.recover.any (fun (r : Taken) => decide (r.order = t.order)) then s.nextRecover t.order
      else s.host.recover } }
  let s1 := s0.modHq q (fun h => { h with
    waiting := h.waiting.filter (fun x => x.order ≠ t.order),
    active := h.active.filter (fun x => x.order ≠ t.order),
    aborting := h.aborting.filter (fun x => x.order ≠ t.order) })
  if bitOf t.cmd.flags.toNat 4 && decide (st = .ok) && quietable t.op.toNat then s1
  else
    let h := s1.hq q
    let c : Completion :=
      { seq := h.nextCpl, cmdSeq := t.cmd.seq, tag := t.cmd.tag,
        opcode := BitVec.ofNat 8 (cplOpcode t.op), status := st, payload := pl,
        epoch := BitVec.ofNat 16 s1.epoch, sentAt := s1.ticks,
        interval := 1000 * s1.fld 0x01000014 15 0, resends := 0, peer := t.peer }
    (s1.modHq q (fun h => { h with nextCpl := h.nextCpl + 1, unacked := h.unacked ++ [c] })).sendReply
      q (cplOpcode t.op) st.code h.nextCpl t.cmd.tag t.cmd.seq pl false false t.peer

/-- The aborted commands of queue `q` complete in sequence order while the queue holds fewer than 1,024 completions
(R90, R132). -/
def State.drainAborts (s : State) (q : Nat) : State :=
  repeatN (s.hq q).aborting.length (fun s =>
    match (s.hq q).aborting with
    | t :: _ => if (s.hq q).unacked.length + (s.hq q).active.length < 1024 then s.complete t .aborted [] else s
    | [] => s) s

/-! ## Streams (R102 to R105, R380, R386) -/

/-- The order of two EVENT records formed in one frame (R380). -/
def recKey (r : List Byte) : Nat := leAt r 0 1 * 256 + leAt r 2 1

/-- An EVENT record takes its place: after every record of an earlier frame, and among those of its
frame by TYPE and byte 2 (R380). -/
def insertRec (f : Nat) (r : List Byte) (l : List (Nat × List Byte)) : List (Nat × List Byte) :=
  match l with
  | [] => [(f, r)]
  | (g, x) :: t =>
    if g = f ∧ recKey r < recKey x then (f, r) :: (g, x) :: t else (g, x) :: insertRec f r t

/-- Payload bytes staged for RESULT and EVENT (R386): partial frames and frames waiting for credit. -/
def State.stagedBytes (s : State) : Nat :=
  ((s.host.result.recs ++ s.host.event.recs).map (fun r => r.2.length)).sum
    + ((s.hport s.streamPort).waiting.map (fun t => match t.kind with
        | .stream => t.payload.length
        | _ => 0)).sum

/-- Whether the RESULT, EVENT and TRACE streams run (R59). -/
def State.streaming (s : State) : Bool :=
  match s.mode with
  | .ready | .run => true
  | _ => false

/-- Whether the staging buffer has room for a RESULT or EVENT record (R386). -/
def State.emitRoom (s : State) (r : List Byte) : Bool := decide (s.stagedBytes + r.length ≤ 65536)

/-- A RESULT or EVENT record is handed to the stream engine (R386). -/
def State.emit (s : State) (isEvent : Bool) (r : List Byte) : State :=
  if !s.streaming then s
  else if !s.emitRoom r then
    (s.raise 0x70000000 0).count 0x70000008 1
  else if isEvent then
    { s with host := { s.host with event :=
      { s.host.event with recs := insertRec s.ticks r s.host.event.recs } } }
  else
    { s with host := { s.host with result :=
      { s.host.result with recs := s.host.result.recs ++ [(s.ticks, r)] } } }

/-- Records that fit a payload of `room` bytes, and the rest. -/
def fitRecs (room : Nat) (l : List (Nat × List Byte)) : List (List Byte) × List (Nat × List Byte) :=
  match l with
  | [] => ([], [])
  | (f, r) :: t =>
    if r.length ≤ room then ((r :: (fitRecs (room - r.length) t).1), (fitRecs (room - r.length) t).2)
    else ([], (f, r) :: t)

/-- Bytes the replay buffer holds (R104). -/
def replayBytes (l : List TxFrame) : Nat := (l.map (fun t => t.wire)).sum

/-- The replay buffer after its oldest frames are discarded to fit 16 MiB (R104). -/
def trimReplay (l : List TxFrame) : List TxFrame :=
  match l with
  | [] => []
  | t :: r => if replayBytes (t :: r) ≤ 16777216 then t :: r else trimReplay r

/-- A RESULT or EVENT frame goes to the replay buffer, and to its port unless that is down or in
bootstrap (R75, R78, R104). -/
def State.sendStream (s : State) (t : TxFrame) : State :=
  let s1 := { s with host := { s.host with replay := trimReplay (s.host.replay ++ [t]) } }
  let k := s.streamPort
  if (s.hport k).up && !s.bootstrap k then s1.queueTx k t else s1

/-- A stream frame (R102); `fault` makes it the FAULT marker of R105. -/
def State.streamFrame (s : State) (op : Nat) (q : Nat) (seq : Word) (recs : List (List Byte))
    (fault : Bool) (k : Nat) : TxFrame :=
  { net := some (s.netHeader k none), kind := if op = 0x82 then .trace else .stream, queue := BitVec.ofNat 8 q,
    opcode := BitVec.ofNat 8 op, status := 0, flags := if fault then 32 else 0,
    epoch := BitVec.ofNat 16 s.epoch, seq := seq, ack := 0, tag := 0,
    arg := BitVec.ofNat 32 recs.length, payload := recs.flatten,
    wire := s.wireBytes k recs.flatten.length none, gen := s.host.gen }

/-- One frame of RESULT or EVENT is formed from the records that fit (R102). -/
def State.formStream (s : State) (isEvent : Bool) : State :=
  let k := s.streamPort
  let st := if isEvent then s.host.event else s.host.result
  let room := s.maxPayload k none / 16 * 16
  match st.recs with
  | [] => s
  | _ :: _ =>
    let (now, rest) := fitRecs room st.recs
    let f := s.streamFrame (if isEvent then 0x81 else 0x80) 0 st.next now false k
    let st' : Stream := { next := st.next + 1, recs := rest }
    let s1 := if isEvent then { s with host := { s.host with event := st' } }
              else { s with host := { s.host with result := st' } }
    s1.sendStream f

/-- Every record of RESULT or EVENT goes out, in as many frames as that takes. -/
def State.flushStream (s : State) (isEvent : Bool) : State :=
  let st := if isEvent then s.host.event else s.host.result
  repeatN st.recs.length (fun s => s.formStream isEvent) s

/-- Whether port `k` carries stream frames (R75, R78). -/
def State.carries (s : State) (k : Nat) : Bool := (s.hport k).up && !s.bootstrap k

/-- The port of TRACE stream `t` (R71). -/
def State.tracePort (s : State) (t : Nat) : Nat := if s.split then t % 4 else 0

/-- One frame of TRACE stream `t` is formed from the records that fit, and waits at port `k` (R102). -/
def State.stageTrace (s : State) (t k : Nat) : State :=
  let tr := s.trace t
  if tr.recs.isEmpty then s
  else
    let (now, rest) := fitRecs (s.maxPayload k none / 16 * 16) tr.recs
    let f := s.streamFrame 0x82 t tr.next now false k
    (s.modTrace t (fun tr => { tr with next := tr.next + 1, recs := rest })).queueTx k f

/-- The records of a TRACE stream go out in one frame at a time while any wait (R102); they stay staged while
the port carries nothing (R75, R78). -/
def State.formTrace (s : State) (t : Nat) : State :=
  let k := s.tracePort t
  if s.carries k then s.stageTrace t k else s

/-- Every record of a TRACE stream goes out. -/
def State.flushTrace (s : State) (t : Nat) : State :=
  repeatN (s.trace t).recs.length (fun s => s.formTrace t) s

/-- At a FENCE.H every record of a TRACE stream joins the frames that wait for its port, whether that carries streams now
or not (R118). -/
def State.fenceTrace (s : State) (t : Nat) : State :=
  repeatN (s.trace t).recs.length (fun s => s.stageTrace t (s.tracePort t)) s

/-- Whether TRACE stream `t` is open (R387). -/
def State.traceOpen (s : State) (t : Nat) : Bool := bitOf (s.regN (aTrace t 0)) 31

/-- The FAULT marker on RESULT, EVENT and every open TRACE stream, after all they hold; it closes the
TRACE streams (R105, R137). -/
def State.faultMarkers (s : State) : State :=
  let s1 := (s.flushStream false).flushStream true
  let k := s1.streamPort
  let s2 := (s1.sendStream (s1.streamFrame 0x80 0 s1.host.result.next [] true k)).sendStream
    (s1.streamFrame 0x81 0 s1.host.event.next [] true k)
  let s3 := { s2 with host := { s2.host with
    result := { s2.host.result with next := s2.host.result.next + 1 },
    event := { s2.host.event with next := s2.host.event.next + 1 } } }
  forEach (List.range 64) (fun t s =>
    if s.traceOpen t then
      let k := s.tracePort t
      let s1 := s.fenceTrace t
      let f := s1.streamFrame 0x82 t (s1.trace t).next [] true k
      ((s1.modTrace t (fun tr => { tr with next := tr.next + 1 })).queueTx k f).setFld (aTrace t 0) 31 31 0
    else s) s3

/-! ## The event recorder (R524 to R528) -/

/-- The class of a recorder code: 0 hardware, 1 administrative, 2 security. -/
def recClass (code : Nat) : Nat :=
  if code = 0x03 then 1 else if code < 0x20 then 0 else if code < 0x30 then 1 else 2

/-- Whether records of a code go to the permanent area. -/
def recPerm (code : Nat) : Bool :=
  code = 0x11 || code = 0x12 || code = 0x30 || code = 0x31 || code = 0x33 || code = 0x35

/-- Whether calendar time is valid (R530). -/
def State.timeValid (s : State) : Bool :=
  s.bar.tai.isSome && s.fld 0x0200002C 0 0 = 1 && s.fld 0x02000004 0 0 = 0

/-- Bytes 8 to 15 of a record, and NO_TIME (R524, R530). -/
def State.recTime (s : State) (cls : Nat) : List Byte × Bool :=
  if cls = 0 then (leBytes 4 (s.regN 0x03000820) ++ leBytes 4 (s.regN 0x03000824), false)
  else if s.timeValid then
    match s.bar.tai with
    | some (sec, ms, ref) =>
      let t : Int := (ms : Int) * 1000000 + s.bar.clockNs - ref
      (leBytes 6 ((sec : Int) + t / 1000000000).toNat ++ leBytes 2 (t / 1000000 % 1000).toNat, false)
    | none => (List.replicate 8 0, true)
  else (List.replicate 8 0, true)

/-- A recorder record of this frame (R524); `clear` is the RECORDER_CLEAR that it is to record. -/
def State.formRec (s : State) (code : Nat) (detail : List Byte) (clear : Option Taken) : Rec :=
  let cls := recClass code
  let (tm, noTime) := s.recTime cls
  { code := code, cls := cls, noTime := noTime, time := tm,
    frame := if s.mode = .reset then 0 else s.frame,
    mode := BitVec.ofNat 8 s.mode.code, epoch := BitVec.ofNat 16 s.epoch,
    detail := (detail ++ List.replicate 32 0).take 32, clear := clear }

/-- A record joins the records waiting for the NV die (R527). -/
def State.queueRec (s : State) (r : Rec) : State := { s with bar := { s.bar with queue := s.bar.queue ++ [r] } }

/-- The codes of class H or A (R527). -/
def rateCodes : List Nat :=
  [1, 2, 3, 4, 5, 6, 7, 8, 0x10, 0x11, 0x12, 0x13, 0x20, 0x21, 0x22, 0x23, 0x24]

/-- Frames between two tokens of a code; none while RATE is 0 (R528). -/
def State.tokenPeriod (s : State) (code : Nat) : Option Nat :=
  let r := s.fld (0x03000500 + 4 * code) 7 0
  if r = 0 then none else some (1000000000 / r)

/-- The bucket of code `k` gains a token, up to BURST, where its period is over (R528). -/
def State.refill (s : State) (k : Nat) : State :=
  match s.tokenPeriod k with
  | none => s
  | some p =>
    let last := sget 0 s.bar.tokenAt k
    if rateCodes.contains k ∧ s.mode ≠ .reset ∧ last + p ≤ s.ticks then
      let burst := s.fld (0x03000500 + 4 * k) 15 8
      { s with bar := { s.bar with
        tokens := supd 32 s.bar.tokens k (fun n => min burst (n + 1)),
        tokenAt := sset 0 s.bar.tokenAt k (last + p) } }
    else s

/-- A recorder record is formed, after the refill of its frame (R527, R528); a record that finds 64 waiting is lost. -/
def State.record (s0 : State) (code : Nat) (detail : List Byte) : State :=
  let s := s0.refill code
  let cls := recClass code
  let tok := sget 32 s.bar.tokens code
  if cls ≠ 2 ∧ tok = 0 then
    ({ s with bar := { s.bar with
        suppressed := supd 0 s.bar.suppressed code (fun n => n + 1) } }).count 0x03000414 1
  else
    let s1 := if cls = 2 then s
      else { s with bar := { s.bar with tokens := sset 32 s.bar.tokens code (tok - 1) } }
    if 64 ≤ s1.bar.queue.length then (s1.raise 0x03000400 1).count 0x03000410 1
    else s1.queueRec (s1.formRec code detail none)

/-! ## Segments that end (R562) -/

/-- Bytes of a granule of a class (R263, R266). -/
def granBytes (cls : Nat) : Nat := if cls = 0 then 32 else if cls = 1 then 16 else 0

/-- Bytes of a ring held at positions from `a` to before `b` leave it. -/
def ringDrop (l : Sparse (Option Byte)) (a b : Nat) : Sparse (Option Byte) :=
  l.filter (fun p => decide (p.1 < a ∨ b ≤ p.1))

/-- The segment playing on target `k`. -/
def State.playOn (s : State) (k : Nat) : Option Play :=
  firstSome s.plays (fun p => if p.1 = k then some p.2 else none)

/-- The segment on target `k` becomes `p`. -/
def State.setPlay (s : State) (k : Nat) (p : Play) : State :=
  { s with plays := sins (serase s.plays k) k p }

/-- The segment on target `k` ends and abandons the ring positions it has not fetched. -/
def State.endPlay (s : State) (k : Nat) : State :=
  match s.playOn k with
  | none => s
  | some p =>
    let s1 := { s with plays := serase s.plays k }
    if p.entry.stream ∧ !p.lost ∧ p.next < p.entry.len then
      let g := granBytes p.entry.cls
      let a := p.base + g * p.next
      let b := p.base + g * p.entry.len
      s1.modCl p.entry.home (fun c => { c with ring := ringDrop c.ring a b, dead := (a, b) :: c.dead })
    else s1

/-- The key of local target `t` of cluster `c` (R141). -/
def tkey (c t : Nat) : Nat := 256 * c + t

/-- Spans of play-timeline ticks cut off at tick `f`. -/
def cutSpans (l : List (Nat × Nat)) (f : Nat) : List (Nat × Nat) :=
  (l.map (fun p => (p.1, min p.2 f))).filter (fun p => decide (p.1 < p.2))

/-! ## Halting -/

/-- A sequencer halts as HALT does (R145); one that STACK_ERR has halted still shows that (R174). -/
def Seq.halted (q : Seq) : Seq := { q with state := if q.state = 6 then 6 else 0, wait := .none }

/-- An RDSP core halts (R317), and its hand-in queue is emptied when asked. -/
def Rdsp.stopped (r : Rdsp) : Rdsp :=
  { r with state := 0, branch := none, delayed := [], fresh := [] }

/-- A microengine's work ends without restart (R415); a host call posted and not yet started goes with it (DESIGN CHOICE,
log entry 69). -/
def Me.emptied (m : Me) : Me :=
  { m with reqs := [], hostReq := none, run := none, again := none }

/-- A shot that is not granted a quantum is counted (R435). -/
def State.countAbort (s : State) (c : Nat) : State := (s.raise (aCl c 0x2004) 1).count (aCl c 0x200C) 1

/-- The tracker shots of cluster `c` that still have quanta to be granted are abandoned where the trackers stop (R435). -/
def State.abortShots (s : State) (c : Nat) : State :=
  forEach ((s.trk c).shots.filter (fun x => x.stretch ≠ 5)) (fun _ s => s.countAbort c) s

/-- The play, measure and background work of cluster `c` ends at the frame boundary before this frame
(R57, R129). -/
def State.stopCluster (s : State) (c : Nat) : State :=
  let s1 := forEach (List.range 8) (fun i s => s.modSeq (8 * c + i) Seq.halted) s
  let s2 := (s1.modMe c Me.emptied).modRd c (fun r => { r.stopped with queue := [] })
  let s3 := (forEach (List.range 228) (fun t s => s.endPlay (tkey c t)) s2).abortShots c
  let s4 := { s3 with
    tqueues := s3.tqueues.filter (fun p => p.1 / 256 ≠ c),
    trks := sset .init s3.trks c .init }
  let s5 := forEach (List.range 64) (fun j s =>
    s.modSlot (64 * c + j) (fun x => { x with wins := [], codes := [], hands := [] })) s4
  let s6 := forEach (List.range 4) (fun m s =>
    s.modMarker (4 * c + m) (fun x => { x with
      mark := cutSpans x.mark (s.ticks - 30), trig := cutSpans x.trig (s.ticks - 30) })) s5
  s6.modCl c (fun x => { x with stopAt := none })

/-! ## Faults (R127 to R137) -/

/-- Held PAULI_UPDATE entries are discarded and counted (R133, R371). -/
def State.dropPauli (s : State) : State :=
  ({ s with perc := { s.perc with held := [] } }).count 0x60000014
    ((s.perc.held.map (fun (h : PauliHold) => h.entries.length)).sum)

/-- Whether a command has been begun by its write port, and so goes on through SAFE (R132). -/
def State.portBegun (s : State) (t : Taken) : Bool :=
  s.clusters.any (fun c => c.2.port.any (fun j => j.begun && (match j.cmd with
    | some x => decide (x.order = t.order)
    | none => false)))

/-- Commands taken in and not complete end with ABORTED, in sequence order within each queue, but for
those their write port has begun (R90, R132). -/
def State.abortAll (s : State) : State :=
  let s1 := forEach (List.range 64) (fun q s =>
    let h := s.hq q
    let pend := (h.active ++ h.waiting).filter (fun t => !s.portBegun t)
    if pend.isEmpty then s
    else (s.modHq q (fun h => { h with
      waiting := h.waiting.filter s.portBegun, active := h.active.filter s.portBegun,
      aborting := h.aborting ++ sortBy Taken.order pend })).drainAborts q) { s with host := { s.host with recover := none } }
  { s1 with
    clusters := s1.clusters.map (fun c => (c.1, { c.2 with reads := [], port := c.2.port.filter (fun j =>
      j.begun || (match j.cmd with
        | some _ => false
        | none => true)) })),
    commits := [],
    host := { s1.host with records := [] },
    bar := { s1.bar with queue := s1.bar.queue.filter (fun r => r.clear.isNone) },
    regs := (s1.setFld 0x03000400 2 2 0).regs,
    modes := { s1.modes with starts := [], stops := [], wakers := [], sleepAt := none, sleepCmd := none } }

/-! ## Ranges of the bias outputs (R490, R495) -/

/-- The range of an NV record. -/
def recRange (r : BitVec 22) : BitVec 2 := (r >>> 20).setWidth 2

/-- The code of an NV record. -/
def recCode (r : BitVec 22) : BitVec 20 := r.setWidth 20

/-- The range and code of an output at the ball in frame `f`. -/
def Bias.shown (x : Bias) (f : Nat) : BitVec 22 :=
  x.coming.foldl (fun v p => if p.1 ≤ f then p.2 else v) x.ball

/-- The range and code of an output reach the ball `d` frames after frame `f`, and not before what is on its way to it
already (R485, R489). -/
def Bias.present (x : Bias) (f d : Nat) : Bias :=
  let left := x.coming.filter (fun p => decide (f < p.1))
  { x with
    ball := x.shown f,
    coming := left ++ [(left.foldl (fun m p => max m p.1) (f + d), x.range ++ x.live)] }

/-- A commit in frame `f` gives an output the range `r` to have: a range change begins; on its way to 0 only the range it
ends in follows; during the hold the range follows and the hold starts again (R490). -/
def Bias.retarget (x : Bias) (r : BitVec 2) (f : Nat) : Bias :=
  if r = x.range then x
  else if x.stage = 2 ∧ f < x.holdFrom + 50000 then { x with range := r, holdFrom := f }.present f 32
  else { x with stage := 1 }

/-- Output `b` takes its fault record as target, on entry to SAFE in frame `f`; on its way to 0 in the record's own range
it needs no range change any more (R495). -/
def Bias.toFault (x : Bias) (f : Nat) : Bias :=
  let y := x.retarget (recRange x.aonFault) f
  { y with fault := true, stage := if x.stage = 1 ∧ recRange x.aonFault = x.range then 0 else y.stage }

/-- The frame in progress is worked again from its boundary, with `redo` done there first: nothing it has done so far
stands (R40, R129, R131; log entry 25). Before the frame has begun there is nothing to undo. -/
def State.undo (s : State) (redo : State → State) : State :=
  match s.base with
  | none => s
  | some b => redo { toBody := { b with phase := 1, frame := s.frame }, pending := s.pending, base := none }

/-- Frames between a sample's play frame and the frame its code leaves the gain stage (R212). -/
def gainDepth : Nat := 25

/-- Frames between a flux sample's play frame and the frame its code is formed (R239). -/
def fluxDepth : Nat := 21

/-- Frames from the frame in which an output forms its codes to the ball, by the output's stage key (R212, R239,
R498). -/
def codeDelay (k : Nat) : Nat := if k < 2048 then 32 - gainDepth else if k < 4096 then 32 - fluxDepth else 32

/-- The cluster of an output, by its stage key (R3). -/
def codeCluster (k : Nat) : Nat :=
  if k < 1024 then k / 16 else if k < 2048 then (k - 1024) / 2 else if k < 4096 then (k - 2048) / 32 else k - 4096

/-- The outputs of the clusters that `p` picks lose the codes that would reach the ball after tick `f + 1`, and what
their voices hold; the chains of flux outputs run on (R57, R129, R247). -/
def State.dropCodes (s : State) (f : Nat) (p : Nat → Bool) : State :=
  { s with
    dac := s.dac.filterMap (fun (x : Nat × List (Nat × List Int)) =>
      if p (codeCluster x.1) then
        let l := x.2.filter (fun c => decide (c.1 + codeDelay x.1 ≤ f + 1))
        if l.isEmpty then none else some (x.1, l)
      else some x),
    voices := (s.voices.map (fun (v : Nat × Voice) => if p (v.1 / 256) then (v.1, { v.2 with line := [] }) else v)).filter
      (fun v => v.2 ≠ Voice.init) }

/-- READY and RUN end with the frame before this one, and the detectors stop (R307). -/
def State.endStretch (s : State) : State :=
  if s.streaming then { s with modes := { s.modes with ran := s.modes.ran ++ [(s.modes.since, s.ticks)] } } else s

/-- SLEEP ends with the frame before this one (R59). -/
def State.endSleep (s : State) : State :=
  { s with modes := { s.modes with slept := s.modes.slept ++ [(s.modes.safeFrame, s.ticks)] } }

/-- A RECOVER that entry to SAFE supersedes ends with ABORTED (R44, R132). -/
def State.dropRecover (s : State) : State :=
  match s.host.recover with
  | some r => s.complete r .aborted []
  | none => s

/-- Entry to SAFE at the boundary of this frame (R57, R64, R131 to R133, R137, R495), with its cause and the detail of
the recorder entry. Where the frame before was one of SAFE, a RECOVER of this frame is superseded, and SAFE goes on
(R44, R134). -/
def State.safeEntry (s : State) (cause : Nat) (detail : List Byte) : State :=
  if s.mode = .safe then s.dropRecover.record 0x05 (leBytes 1 cause ++ leBytes 8 s.frame)
  else
    let f := s.frame
    let fromBoot := decide (s.mode = .boot)
    let fromSleep := decide (s.mode = .sleep)
    let s1 := s.faultMarkers.dropPauli
    let s2 := forEach (List.range 16) (fun c s => s.stopCluster c) s1
    let s3 := (if fromSleep then s2.endSleep else s2).abortAll.dropCodes s2.ticks (fun _ => true)
    let s4 := { s3.endStretch with
      mode := .safe,
      dwrites := [],
      biases := (List.range 64).foldl (fun l b =>
        supd .init l b (fun x => x.toFault s3.ticks)) s3.biases,
      modes := { s3.endStretch.modes with
        wakeAt := none, safeFrame := if fromSleep || fromBoot then s3.modes.safeFrame else s3.ticks,
        recoverFrom := if fromSleep then f + 350000 else f },
      power := { s3.power with converters := true } }
    let s5 := ((s4.setFld 0x40 15 8 cause).setFld 0x40 5 5 (b2n fromBoot)).setReg64 0x68 f
    s5.record 0x04 (leBytes 1 cause ++ leBytes 8 f ++ detail)

/-- The unit and the detail code of a SAFE_ENTRY record (R527). Their numbers are the model's (DESIGN CHOICE, log entry
45): units 0 to 15 the clusters, 0x20 + k host port k, 0x30 the memories of the device, 0x31 the thermal manager, 0x40 the
firmware image, 0x41 a patch, 0x42 REFCLK, 0x43 calibration, 0x44 the host. -/
def unitDetail (unit code : Nat) : List Byte := leBytes 1 unit ++ leBytes 1 code

/-- A device fault detected in this frame: SAFE is entered at its boundary (R40, R42, R131). `redo` is what stands of
the frame: the detection itself. In SAFE a further fault is only recorded (R134). -/
def State.deviceFault (s : State) (redo : State → State) (cause : Nat) (detail : List Byte) : State :=
  if s.mode = .safe then s.record 0x05 (leBytes 1 cause ++ leBytes 8 s.frame)
  else if s.mode = .reset then s
  else (s.undo redo).safeEntry cause detail

/-- A device fault with nothing to be done at the boundary before it. -/
def State.enterSafe (s : State) (cause : Nat) (detail : List Byte) : State := s.deviceFault id cause detail

/-- Cluster `c` is contained from the boundary of this frame on (R129). -/
def State.contain (s : State) (c cause : Nat) : State :=
  let s1 := ((s.stopCluster c).dropCodes s.ticks (fun k => decide (k = c))).modCl c (fun x => { x with faultAt := s.ticks })
  let s2 := { s1 with
    commits := s1.commits.filter (fun p => p.host.isSome || p.sequencer / 8 ≠ c),
    dwrites := s1.dwrites.filter (fun w => decide (dbitCluster w.idx ≠ some c)) }
  let bits := (List.range 128).map (fun j => 128 * c + j)
    ++ (List.range 64).map (fun j => 2048 + 64 * c + j)
    ++ (List.range 64).map (fun j => 7168 + 64 * c + j)
  let s3 := forEach bits (fun i s => s.clearDbit i) s2
  let s4 := (s3.raise 0x64 c).record 0x06 (leBytes 1 c ++ leBytes 1 cause)
  s4.emit true ([7, 1] ++ leBytes 1 c ++ leBytes 1 cause ++ leBytes 4 0 ++ leBytes 8 s.frame)

/-- A cluster fault detected in this frame (R127 to R129, R134); `redo` is what stands of the frame. -/
def State.clusterFaultAfter (s : State) (redo : State → State) (c cause : Nat) : State :=
  if s.mode = .safe ∨ !bitOf (s.fld 0x60 15 0) c then s.deviceFault redo cause (unitDetail c cause)
  else if s.contained c then s.record 0x06 (leBytes 1 c ++ leBytes 1 cause)
  else (s.undo redo).contain c cause

/-- A cluster fault with nothing to be done at the boundary before it. -/
def State.clusterFault (s : State) (c cause : Nat) : State := s.clusterFaultAfter id c cause

/-- An uncorrectable memory error (R127): a cluster fault, or a device fault where no cluster is named; `redo` is what
stands of the frame besides its record. -/
def State.eccFaultAfter (s : State) (redo : State → State) (c : Option Nat) (memory word : Nat) : State :=
  let note (s : State) : State := s.record 0x07 (leBytes 1 memory ++ leBytes 4 word)
  match c with
  | some c => (note s).clusterFaultAfter (fun s => note (redo s)) c 0x03
  | none => (note s).deviceFault (fun s => note (redo s)) 0x03 (unitDetail 0x30 memory)

/-- An uncorrectable memory error whose frame is worked again without it. -/
def State.eccFault (s : State) (c : Option Nat) (memory word : Nat) : State := s.eccFaultAfter id c memory word

end Sys2Proof.Machine
end

