-- ==== Sys2Proof/Machine/Operands.lean ====
section
/-!
DEFINITION. Operand forms of the Tarfiger instructions, target numbers and ownership, group identifiers,
and directory entries.
-/
namespace Sys2Proof.Machine

/-! ## Registers of a sequencer (R139) -/

/-- Register `i` of a sequencer; g0 reads 0. -/
def Seq.get (x : Seq) (i : Nat) : Word := if i = 0 then 0 else sget 0 x.g i

/-- Register `i` of a sequencer takes a value; a write to g0 is discarded. -/
def Seq.put (x : Seq) (i : Nat) (v : Word) : Seq :=
  if i = 0 then x else { x with g := sset 0 x.g i v }

/-- Time register `i`. -/
def Seq.getT (x : Seq) (i : Nat) : Long := sget 0 x.t i

/-- Time register `i` takes a value. -/
def Seq.putT (x : Seq) (i : Nat) (v : Long) : Seq := { x with t := sset 0 x.t i v }

/-- The flags follow a result (R180). -/
def Seq.flags (x : Seq) (o : AluOut) : Seq :=
  { x with z := o.z, n := o.n, c := o.c.getD x.c }

/-- The second ALU operand: gb, or IMM when I = 1 (R177). -/
def Seq.bOp (x : Seq) (o : Alu) : Word := if o.useImm then o.imm else x.get o.gb.val

/-- The registers an ALU word reads (R179). -/
def aluReads (o : Alu) : List Nat := if o.useImm then [o.ga.val] else [o.ga.val, o.gb.val]

/-- An operand that is a register's low half when R = 1 and a field otherwise. -/
def Seq.half (x : Seq) (r : Bool) (gs : Fin 32) (v : BitVec 16) : BitVec 16 :=
  if r then (x.get gs.val).setWidth 16 else v

/-- An operand that is a register when R = 1 and a field otherwise. -/
def Seq.word (x : Seq) (r : Bool) (gs : Fin 32) (v : Word) : Word := if r then x.get gs.val else v

/-! ## Targets (R141, R142, R151) -/

/-- The kinds of target. -/
inductive Tgt where
  | drv | flx | prb | slot | mrk | none
  deriving DecidableEq, Repr

/-- The kind of local target `t` (R141). -/
def tgtKind (t : Nat) : Tgt :=
  if t < 64 then .drv else if t < 96 then .flx else if t < 160 then .prb
  else if t < 224 then .slot else if t < 228 then .mrk else .none

/-- Whether an event of this kind can drive local target `t` (R151). -/
def EvKind.drives (k : EvKind) (t : Nat) : Bool :=
  match k, tgtKind t with
  | .play .., .drv | .play .., .flx | .play .., .prb => true
  | .cplay .., .drv | .cplay .., .flx | .cplay .., .prb => true
  | .flux .., .flx => true
  | .probe .., .prb => true
  | .acquire .., .slot => true
  | .mark .., .mrk => true
  | .setf .., .drv | .setf .., .prb => true
  | .vz .., .drv | .vz .., .prb => true
  | .phrst .., .drv | .phrst .., .prb => true
  | _, _ => false

/-- Whether an event is play-class (R151). -/
def EvKind.isPlay : EvKind → Bool
  | .setf .. | .vz .. | .phrst .. => false
  | _ => true

/-- Whether the committed mask of sequencer `q` has local target `t` (R142, R174). -/
def State.maskHas (s : State) (q t : Nat) : Bool := bitOf (s.regN (aSeq q (0x40 + 4 * (t / 32)))) (t % 32)

/-- The sequencer that owns local target `t` of cluster `c` (R142). -/
def State.owner (s : State) (c t : Nat) : Option Nat :=
  firstSome (List.range 8) (fun i => if s.maskHas (8 * c + i) t then some (8 * c + i) else none)

/-- Whether sequencer `q` owns local target `t`. -/
def State.owns (s : State) (q t : Nat) : Bool := decide (t < 228) && decide (s.owner (q / 8) t = some q)

/-- The drive channel of a drive-voice target, or the probe channel of a probe-voice target. -/
def tgtChan (c t : Nat) : Nat :=
  match tgtKind t with
  | .drv => 16 * c + t / 4
  | .flx => 32 * c + (t - 64)
  | .prb => 2 * c + (t - 96) / 32
  | .slot => 64 * c + (t - 160)
  | .mrk => 4 * c + (t - 224)
  | .none => 0

/-- The voice of a voice target. -/
def tgtVoice (t : Nat) : Nat :=
  match tgtKind t with
  | .drv => t % 4
  | .prb => (t - 96) % 32
  | _ => 0

/-- The slot block of frequency slot `fs` of a voice target (R238, R259). -/
def aVoiceSlot (c t fs : Nat) : Nat :=
  match tgtKind t with
  | .drv => aDrv (tgtChan c t) (0x1000 + 0x20 * (32 * tgtVoice t + fs))
  | _ => aPrb (tgtChan c t) (0x8000 + 0x20 * (32 * tgtVoice t + fs))

/-- The base of a voice's AMP, CONST and STATE registers. -/
def aVoice (c t : Nat) : Nat :=
  match tgtKind t with
  | .drv => aDrv (tgtChan c t) (0x20 + 0x10 * tgtVoice t)
  | _ => aPrb (tgtChan c t) (0x100 + 0x10 * tgtVoice t)

/-! ## Groups (R120, R122, R124) -/

/-- The instances of a class; none for an unlisted class. -/
def groupSize (cls : Nat) : Option Nat :=
  match cls with
  | 0x01 => some 32768 | 0x02 => some 256 | 0x03 => some 64 | 0x04 => some 512 | 0x05 => some 512
  | 0x06 => some 1024 | 0x07 => some 32 | 0x08 => some 1024 | 0x09 => some 1024 | 0x0A => some 1024
  | 0x0B => some 128 | 0x0C => some 1024 | 0x0D => some 1 | 0x0E => some 64 | 0x0F => some 16
  | 0x10 => some 4 | _ => none

/-- Whether a group identifier has a listed class and an instance of it (R122). -/
def groupListed (g : Nat) : Bool :=
  match groupSize (g / 2 ^ 24) with
  | some n => decide (g % 2 ^ 24 < n)
  | none => false

/-- The cluster a listed group's instance belongs to; none for the host-only classes (R124). -/
def groupCluster (g : Nat) : Option Nat :=
  let i := g % 2 ^ 24
  match g / 2 ^ 24 with
  | 0x01 => some (i / 128 / 16) | 0x02 => some (i / 16) | 0x03 => some (i / 4)
  | 0x04 => some (i / 32) | 0x05 => some (i / 32) | 0x06 => some (i / 32 / 2) | 0x07 => some (i / 2)
  | 0x08 => some (i / 64) | 0x09 => some (i / 64) | 0x0A => some (i / 64) | 0x0B => some (i / 8)
  | 0x0E => some (i / 4) | 0x0F => some i
  | _ => none

/-- The words of a group's members, by address. -/
def groupWords (g : Nat) : List Nat :=
  let i := g % 2 ^ 24
  match g / 2 ^ 24 with
  | 0x01 => let b := aDrv (i / 128) (0x1000 + 0x20 * (i % 128)); [b, b + 4, b + 8]
  | 0x02 => [aDrv i 4, aDrv i 8] ++ (List.range 4).flatMap (fun k => [aDrv i (0x20 + 0x10 * k), aDrv i (0x24 + 0x10 * k)])
  | 0x03 => [aMrk i 4]
  | 0x04 => [aFlx i 4, aFlx i 8]
  | 0x05 => [aFlx i 0x14]
  | 0x06 =>
    let n := i / 32
    let k := i % 32
    [aPrb n (0x100 + 0x10 * k), aPrb n (0x104 + 0x10 * k)] ++ (List.range 32).flatMap (fun j =>
      let b := aPrb n (0x8000 + 0x20 * (32 * k + j)); [b, b + 4, b + 8])
  | 0x07 => [aPrb i 4, aPrb i 8]
  | 0x08 => [aSlot i 0, aSlot i 4, aSlot i 8]
  | 0x09 => [aSlot i 0xC, aSlot i 0x10, aSlot i 0x14]
  | 0x0A => (List.range 7).map (fun k => aSlot i (0x20 + 4 * k))
  | 0x0B => (List.range 8).map (fun k => aSeq i (0x40 + 4 * k))
  | 0x0C => (List.range 9).map (fun k => 0x60010000 + 0x40 * i + 4 * k)
  | 0x0D => [0x60000000]
  | 0x0E => (List.range 8).map (fun k => aBias i (4 * k))
  | 0x0F => [aPump i 4, aPump i 8, aPump i 12, aPump i 16]
  | 0x10 => [0x200 + 8 * i, 0x204 + 8 * i]
  | _ => []

/-! ## Directory entries (R265, R266) -/

/-- The fields of a directory entry from its four words. -/
def Entry.ofWords (w0 w1 w2 w3 : Nat) : Entry :=
  { markers := bitsOf w0 31 28, valid := bitOf w0 27, stream := bitOf w0 26, cls := bitsOf w0 25 24,
    home := bitsOf w0 23 20, base := bitsOf w0 19 0, rc := bitOf w1 20, condEn := bitOf w1 19,
    succEn := bitOf w1 18, len := bitsOf w1 17 0, csucc := bitsOf w2 31 16, succ := bitsOf w2 15 0,
    dbit := bitsOf w3 12 0 }

/-- Directory entry `e` as it stands. -/
def State.entry (s : State) (e : Nat) : Entry :=
  .ofWords (s.memWord (aDir e 0)) (s.memWord (aDir e 1)) (s.memWord (aDir e 2)) (s.memWord (aDir e 3))

/-- Bytes of the Carafe ring of cluster `c` (R260). -/
def State.ringSize (s : State) (c : Nat) : Nat := s.fld (aCl c 0xC00) 3 0 * 1048576

/-- Whether an entry plays on local target `t` of cluster `c`, reached in a conditional position or not
(R269, R274). -/
def State.entryPlays (s : State) (e : Entry) (c t : Nat) (conditional : Bool) : Bool :=
  e.valid && decide (e.home = c)
  && (match tgtKind t with
      | .drv | .prb => e.cls = 0 || e.cls = 2
      | .flx => e.cls = 1
      | _ => false)
  && !(!e.stream && decide (e.cls ≠ 2) && decide (16777216 - s.ringSize c < 16 * e.base + e.len * granBytes e.cls))
  && !(e.stream && conditional)

end Sys2Proof.Machine
end

