-- ==== Sys2Proof/Machine/SeqCore.lean ====
section
/-!
DEFINITION. What every Tarfiger instruction shares: when it issues (R140, R178, R179), conditions
(R160 to R162), stamping of timed events (R142, R152 to R155) and SYNCR's choice of a boundary (R169).
-/
namespace Sys2Proof.Machine

/-! ## Conditions -/

/-- The conditions of lateness records, in the order of the record's bits (R162, R380). -/
inductive SeqCond where
  | lateEvent | stampOver | stampConflict | targetRefused | lateSelect | lateDbit
  deriving DecidableEq, Repr

/-- The condition's bit in a lateness record (R380). -/
def SeqCond.bit : SeqCond → Nat
  | .lateEvent => 0 | .stampOver => 1 | .stampConflict => 2 | .targetRefused => 3 | .lateSelect => 4
  | .lateDbit => 5

/-- The condition's bit in `SEQ.STATUS` (R174). -/
def SeqCond.status : SeqCond → Nat
  | .lateEvent => 8 | .stampOver => 9 | .stampConflict => 10 | .targetRefused => 11
  | .lateSelect => 12 | .lateDbit => 13

/-- The condition's counter in the sequencer's registers, if it has one (R161). -/
def SeqCond.counter : SeqCond → Option Nat
  | .lateEvent => some 0x18 | .lateSelect => some 0x1C | .lateDbit => some 0x20 | _ => none

/-- A reporting period's first condition and count (R162). -/
def Late.note (l : Late) (k : SeqCond) (q target frame : Nat) : Late :=
  if l.count = 0 then
    ⟨BitVec.ofNat 6 (2 ^ k.bit), 1, q, target, frame⟩
  else { l with conds := l.conds ||| BitVec.ofNat 6 (2 ^ k.bit), count := min 65535 (l.count + 1) }

/-- A condition of sequencer `q` is detected: sticky bit, counter and lateness record (R161, R162). -/
def State.seqCond (s : State) (k : SeqCond) (q target frame : Nat) : State :=
  let s1 := s.raise (aSeq q 8) k.status
  let s2 := match k.counter with
    | some o => s1.count (aSeq q o) 1
    | none => s1
  s2.modCl (q / 8) (fun c => { c with late := c.late.note k q target frame })

/-- The play-frame and target fields of an occurrence that has none (R162). -/
def noFrame : Nat := 2 ^ 64 - 1
def noTarget : Nat := 0xFF

/-! ## Issue -/

/-- Whether sequencer `q` issues in this frame (R45, R129, R140). -/
def State.seqReady (s : State) (q : Nat) : Bool :=
  decide (s.mode = .run) && !s.contained (q / 8)
    && (match (s.seq q).state.toNat with
        | 1 | 2 | 3 | 5 => true
        | _ => false)
    && decide ((s.seq q).nextIssue ≤ s.frame)
    && decide ((s.seq q).wait = .none ∨ (s.seq q).wait = .fence)

/-- The instruction issues unless it must wait one frame for an LDS (R179); `reads` are the registers
it reads. -/
def State.issue (s : State) (q : Nat) (reads : List Nat) (f : State → State) : State :=
  if !s.seqReady q then s
  else
    let hit := match (s.seq q).ldsReg with
      | some r => reads.contains r
      | none => false
    if hit then s.modSeq q (fun x => { x with ldsReg := none, nextIssue := s.frame + 1 })
    else f (s.modSeq q (fun x => { x with ldsReg := none, state := 1, wait := .none }))

/-- Issue goes on at word `pc`, `n` frames later (R178). -/
def State.goto (s : State) (q : Nat) (pc : BitVec 16) (n : Nat) : State :=
  s.modSeq q (fun x => { x with pc := pc, nextIssue := s.frame + n })

/-- Issue goes on at the next word in the next frame (R147, R178). -/
def State.goNext (s : State) (q : Nat) : State := s.goto q ((s.seq q).pc + 1) 1

/-- The sequencer halts; the pc stays (R145). -/
def State.haltSeq (s : State) (q : Nat) : State := s.modSeq q Seq.halted

/-- `STACK_ERR`: the sequencer halts and the instruction has no other effect (R146). -/
def State.stackErr (s : State) (q : Nat) : State :=
  (s.raise (aSeq q 8) 15).modSeq q (fun x => { x.halted with state := 6 })

/-! ## Timed events -/

/-- Events of sequencer `q` counted as stamped at `t` (R155). -/
def Seq.stampsAt (x : Seq) (t : Nat) : Nat := sget 0 x.stamps t

/-- One more stamp at `t` counts. -/
def Seq.stamp (x : Seq) (t : Nat) : Seq := { x with stamps := supd 0 x.stamps t (fun n => n + 1) }

/-- Entries of a target's queue, those on their way included (R153). -/
def TQueue.size (t : TQueue) : Nat := t.flight.length + t.held.length

/-- What stops a timed event from issuing in this frame (R152, R153). -/
inductive Stall where
  | none | lead | full
  deriving DecidableEq, Repr

/-- The stall an event stamped at `t` on local target `tgt` meets (R152, R153). -/
def State.stampStall (s : State) (c tgt t : Nat) : Stall :=
  if s.frame + 2 ^ 20 < t then .lead
  else if tgt < 228 ∧ 64 ≤ (s.tq (tkey c tgt)).size then .full
  else .none

/-- The condition that drops an event at issue, if one does (R142, R155, R160). -/
def State.stampDrop (s : State) (q tgt t : Nat) (k : EvKind) : Option SeqCond :=
  if !s.owns q tgt || !k.drives tgt then some .targetRefused
  else if 2 ≤ (s.seq q).stampsAt t then some .stampOver
  else none

/-- A timed event of sequencer `q`, stamped at `t`, leaves for its queue or is dropped at issue; it
counts as a stamp either way (R142, R155, R160), and FENCE.T waits 4 frames for it either way (DESIGN CHOICE, log entry
61). -/
def State.stampEvent (s : State) (q tgt t : Nat) (k : EvKind) (tentative rerun : Bool) : State :=
  let drop := s.stampDrop q tgt t k
  let s1 := s.modSeq q (fun x => { x.stamp t with lastTimed := some s.frame })
  match drop with
  | some .stampOver => s1.seqCond .stampOver q tgt t
  | some c => s1.seqCond c q tgt t
  | none =>
    let (id, s2) := s1.fresh
    s2.modTq (tkey (q / 8) tgt) (fun x => { x with flight := x.flight ++
      [{ seq := q, t := t, issue := s.frame, kind := k, tentative := tentative, rerun := rerun, id := id }] })

/-- A timed instruction: it stalls (R152, R153), or stamps its event at TL and issue goes on (R151). -/
def State.timed (s : State) (q : Nat) (tgt : BitVec 8) (reads : List Nat) (k : Seq → EvKind) : State :=
  s.issue q reads (fun s =>
    let x := s.seq q
    let t := x.tl.toNat
    match s.stampStall (q / 8) tgt.toNat t with
    | .lead => s.modSeq q (fun x => { x with state := 3, nextIssue := t - 2 ^ 20 })
    | .full => s.modSeq q (fun x => { x with state := 2, nextIssue := s.frame + 1 })
    | .none => (s.stampEvent q tgt.toNat t (k x) false false).goNext q)

/-! ## Rounds -/

/-- The smallest boundary at or after `b` whose round is not skipped, looking at `fuel` rounds (R169). -/
def unskipped (skipped : List Nat) (origin n fuel b : Nat) : Nat :=
  match fuel with
  | 0 => b
  | fuel + 1 =>
    if skipped.contains ((b - origin) / n) then unskipped skipped origin n fuel (b + n) else b

/-- The frame SYNCR moves a cursor at `t` to (R169). -/
def State.syncrFrom (s : State) (t : Nat) : Nat :=
  match s.boundaryFrom t with
  | none => t
  | some b => unskipped s.therm.skipped s.origin s.roundLen (s.therm.skipped.length + 1) b

/-- SYNCR's choice is remembered for the thermal manager (R508). -/
def State.noteSyncr (s : State) (b : Nat) : State :=
  { s with therm := { s.therm with syncrSeen := true, chosen := b :: s.therm.chosen } }

/-- A microcode SYNCR has executed; the boundary it chose counts once its section commits (R507). -/
def State.sawSyncr (s : State) : State := { s with therm := { s.therm with syncrSeen := true } }

end Sys2Proof.Machine
end

