-- ==== Sys2Proof/Machine/SegCore.lean ====
section
/-!
DEFINITION. Segments on the targets: how one starts, its markers, the Carafe ring, and the synthesis of
output samples (R213 to R226, R232, R241 to R253, R268 to R280).
-/
namespace Sys2Proof.Machine

/-! ## Starting segments -/

/-- A segment of cluster `c` with marker mask `mask` triggers its markers at play tick `t` (R232). The
pulse has the WIDTH in force at the trigger, whatever is committed before it ends (DESIGN CHOICE, log entry 62). -/
def State.triggerMarkers (s : State) (c mask t : Nat) : State :=
  forEach (List.range 4) (fun i s =>
    let w := s.fld (aMrk (4 * c + i) 4) 31 16
    if bitOf mask i && decide (w ≠ 0) then
      s.modMarker (4 * c + i) (fun m => { m with trig := m.trig ++ [(t, t + w)] })
    else s) s

/-- A segment is put on local target `tgt` of cluster `c`: a stream segment reserves its positions (R277). -/
def State.putSegment (s : State) (c tgt : Nat) (p : Play) : State :=
  let s1 := if p.entry.stream then
      s.modCl c (fun x => { x with rd := x.rd + p.entry.len * granBytes p.entry.cls })
    else s
  s1.setPlay (tkey c tgt) { p with base := (s.cl c).rd }

/-- The segment of entry `e` for play tick `t`, before its first granule is fetched. -/
def Play.start (q : Nat) (e : Entry) (t slot : Nat) : Play :=
  { seq := q, entry := e, t := t, slot := slot, scale := 32768, amp := none, next := 0, base := 0, succ := none,
    selected := false, lost := false, env := [], phase := 0, upTo := none }

/-- A segment begins on a target at play tick `t`, and its markers are triggered. -/
def State.beginPlay (s : State) (c tgt q : Nat) (e : Entry) (t slot : Nat) (scale : Int)
    (amp : Option (BitVec 16)) : State :=
  (s.putSegment c tgt { Play.start q e t slot with scale := scale, amp := amp }).triggerMarkers c e.markers t

/-- The tick in which a segment ends: 4 frames for each granule, or the end of the quanta that a tracker's segment was
granted (R270, R435). -/
def Play.fin (p : Play) : Nat :=
  let f := p.t + 4 * p.entry.len
  match p.upTo with
  | some u => min f u
  | none => f

/-- `DIR_INVALID` in cluster `c` (R269). -/
def State.dirInvalid (s : State) (c : Nat) : State :=
  (s.raise (aCl c 0xC08) 2).count (aCl c 0xC1C) 1

/-- A protected access of cluster `c` to `n` words of 64 bits of memory `memory`: corrected errors of its waveform slice,
of the Segment Directory and of the weights are counted, and an uncorrectable one is a fault and the access is not made
(R127, R264, R301). -/
def State.guardEcc (s : State) (ecc : Ecc) (c memory word n : Nat) (k : State → State) : State :=
  match ecc with
  | .clean => k s
  | .corrected _ => k (if memory ≤ 2 ∨ memory = 6 then s.count (aCl c 0xC38) (ecc.fixed n) else s)
  | .uncorrectable => s.eccFault (some c) memory word

/-- The reads of the directory entries `l`, which together meet `ecc` (R264). -/
def State.guardDirs (s : State) (ecc : Ecc) (l : List Nat) (k : State → State) : State :=
  match l with
  | [] => k s
  | i :: _ => s.guardEcc ecc (i / 4096) 2 i (2 * l.length) k

/-- The read of directory entry `idx`, which meets `ecc` (R264, R268). -/
def State.guardDir (s : State) (ecc : Ecc) (idx : Nat) (k : State → State) : State :=
  s.guardDirs ecc [idx] k

/-- A play-class event starts on voice `k`: the amplitude that replaced the committed one is at its end (R253). -/
def State.endAmp (s : State) (k : Nat) : State :=
  { s with voices := supd .init s.voices k (fun v => { v with amp := none }) }

/-- An event starts directory entry `e` on a target at play tick `t`: what the target played has ended, and the entry is
read in this frame (R158, R253, R268, R269). -/
def State.startEntry (s : State) (c tgt q idx t slot : Nat) (scale : Int) (amp : Option (BitVec 16))
    (conditional : Bool) (ecc : Ecc) : State :=
  let s1 := (s.endPlay (tkey c tgt)).endAmp (tkey c tgt)
  s1.guardDir ecc idx (fun s =>
    let e := s.entry idx
    if s.entryPlays e c tgt conditional then s.beginPlay c tgt q e t slot scale amp
    else s.dirInvalid c)

/-! ## Carafe (R275 to R280) -/

/-- Whether a stream position is abandoned or past its fetch (R278, R562). -/
def Cluster.isDead (c : Cluster) (p : Nat) : Bool := c.dead.any (fun d => decide (d.1 ≤ p ∧ p < d.2))

/-- One stream byte is written by the port (R276, R278). -/
def Cluster.putStream (c : Cluster) (b : Byte) : Cluster :=
  { c with
    ring := if c.isDead c.wr then c.ring else sins c.ring c.wr (some b),
    wr := c.wr + 1 }

/-- The ring of cluster `c` is emptied; of the STREAM_BLOCKs at the port, the one being stored loses its rest (R275). -/
def State.emptyRing (s : State) (c : Nat) : State :=
  let s1 := s.modCl c (fun x => { x with
    ring := [], wr := 0, rd := 0, dead := [],
    port := x.port.map (fun j => match j.kind with
      | .stream => { j with dropped := j.begun }
      | _ => j) })
  { s1 with plays := s1.plays.map (fun p =>
      if p.1 / 256 = c ∧ p.2.entry.stream then (p.1, { p.2 with lost := true }) else p) }

/-- Samples of a granule from its bytes: complex for class 0, real for class 1 (R213, R240). -/
def granSamples (cls : Nat) (l : List Byte) : List Cpx :=
  (List.range 8).map (fun i =>
    if cls = 0 then ⟨sbitsOf (leAt l (4 * i) 2) 15 0, sbitsOf (leAt l (4 * i + 2) 2) 15 0⟩
    else ⟨sbitsOf (leAt l (2 * i) 2) 15 0, 0⟩)

/-- A missing granule of cluster `c` with the start frame numbered `g` (R278 to R280). -/
def State.underrun (s : State) (c g : Nat) : State :=
  let s1 := if s.fld (aCl c 0xC08) 0 0 = 1 then s else s.setReg64 (aCl c 0xC20) g
  let s2 := (s1.raise (aCl c 0xC08) 0).count (aCl c 0xC14) 1
  s2.modCl c (fun x => { x with
    missing := x.missing ++ [g],
    stopAt := if x.stopAt.isSome || decide (s.fld (aCl c 0xC00) 8 8 = 0) then x.stopAt
      else some ((s.boundaryFrom (s.frame + 1)).getD (s.frame + 1)) })

/-- Bytes that a job still brings to the ring (R276). -/
def PortJob.streamLeft (j : PortJob) : Nat :=
  match j.kind with
  | .stream => if j.dropped then 0 else j.left.length
  | _ => 0

/-! ## Voice synthesis (R211 to R226, R252) -/

/-- The two envelope samples of a segment in tick `f`, with the voice's constant for a constant segment
(R213, R214). -/
def Play.samples (p : Play) (const : Word) (f : Nat) : Cpx × Cpx :=
  if f < p.t ∨ p.fin ≤ f then (⟨0, 0⟩, ⟨0, 0⟩)
  else if p.entry.cls = 2 then
    let z : Cpx := ⟨sbitsOf const.toNat 15 0, sbitsOf const.toNat 31 16⟩
    (z, z)
  else
    let i := 2 * ((f - p.t) % 4)
    (p.env.getD i ⟨0, 0⟩, p.env.getD (i + 1) ⟨0, 0⟩)

/-- The channel gain register of a voice target (R225, R252). -/
def aGain (c t : Nat) : Nat :=
  match tgtKind t with
  | .drv => aDrv (tgtChan c t) 4
  | _ => aPrb (tgtChan c t) 4

/-- What voice `k` takes in this frame, and the voice after it: a play-class event leaves its slot and its amplitude in
force until the next (R217, R253), and a tracker's segment its slot. -/
def State.voiceFrame (s : State) (k : Nat) : VFrame × Voice :=
  let const := s.reg (aVoice (k / 256) (k % 256) + 4)
  let v := sget .init s.voices k
  match s.playOn k with
  | some p =>
    let e := p.samples const s.ticks
    (⟨s.frame, e.1, e.2, p.slot, p.amp, p.phase, true⟩,
      { v with slot := p.slot, amp := if p.upTo.isSome then v.amp else p.amp })
  | none => (⟨s.frame, ⟨0, 0⟩, ⟨0, 0⟩, v.slot, v.amp, 0, false⟩, v)

/-- The envelope stream of a voice `v` that has been idle before this frame: zeros in the slot that was in force
(R215 to R217). -/
def State.idleLine (s : State) (v : Voice) : List VFrame :=
  (List.range 31).map (fun i => ⟨s.numberAt (s.ticks - 1 - i), ⟨0, 0⟩, ⟨0, 0⟩, v.slot, v.amp, 0, false⟩)

/-- The envelope samples of a stream, newest first. -/
def envStream (l : List VFrame) : List Cpx := l.flatMap (fun v => [v.e1, v.e0])

/-- The 24 phase bits of DAC-rate sample `n` of a slot (R218). -/
def dacPhase (f : BitVec 48) (phi : Word) (n : Nat) : BitVec 24 := BitVec.ofNat 24 (slotPhase f phi n / 2 ^ 24)

/-- The 16 outputs of voice `k` with stream `l` of the play frame `gainDepth` frames ago, each with whether it was
limited (R217 to R219, R224): frequency, phase and amplitude are those in force in that frame. -/
def State.voiceOutputs (s : State) (k : Nat) (l : List VFrame) : List (Int × Bool) :=
  match l.drop gainDepth with
  | [] => List.replicate 16 (0, false)
  | v :: _ =>
    let b := aVoiceSlot (k / 256) (k % 256) v.slot
    let f := (s.wordAgo (b + 0x14) gainDepth ++ s.wordAgo (b + 0x10) gainDepth).setWidth 48
    let phi := s.wordAgo (b + 0x18) gainDepth + v.phase
    let amp := v.amp.getD ((s.wordAgo (aVoice (k / 256) (k % 256)) gainDepth).setWidth 16)
    (List.range 16).map (fun i =>
      let pos := 2 * gainDepth + 1 - i / 8
      let near := ((envStream l).drop (pos - 12)).take 25
      if near.all (fun z => z == ⟨0, 0⟩) then (0, false)
      else
        let z := interpolate near (i % 8)
        let r := cosSin (dacPhase f phi (16 * v.frame + i))
        let y := rneInt ((z.re * r.re - z.im * r.im) * amp.toNat) 57
        (satInt 16 y, decide (satInt 16 y ≠ y)))

/-- A channel's DAC codes from its voices' outputs, and whether one was limited (R225, R252). -/
def channelCodes (outs : List (List (Int × Bool))) (gain : Nat) : List (Int × Bool) :=
  (List.range 16).map (fun i =>
    let sum := (outs.map (fun o => (o.getD i (0, false)).1)).foldl (· + ·) 0
    let y := rneInt (sum * gain) 18
    (satInt 14 y, decide (satInt 14 y ≠ y)))

/-- The voice target keys of a drive or probe channel. -/
def chanVoices (cls : OutClass) (n : Nat) : List Nat :=
  match cls with
  | .drv => (List.range 4).map (fun k => tkey (n / 16) (4 * (n % 16) + k))
  | .prb => (List.range 32).map (fun k => tkey (n / 2) (96 + 32 * (n % 2) + k))
  | _ => []

/-- The codes that a channel forms in this frame, kept until they have left the ball (R212, R239, R498). -/
def State.putCodes (s : State) (cls : OutClass) (n : Nat) (codes : List Int) : State :=
  { s with dac := supd [] s.dac (stageKey cls n) (fun l =>
      (s.ticks, codes) :: l.filter (fun p => decide (s.ticks < p.1 + 34))) }

/-- A channel's samples of one frame: its DAC codes, and saturation flags (R224 to R226, R252). -/
def State.synthChannel (s : State) (cls : OutClass) (n : Nat) : State :=
  let outs := (chanVoices cls n).map (fun k => s.voiceOutputs k (sget Voice.init s.voices k).line)
  let gain := bitsOf (s.wordAgo (match cls with
    | .drv => aDrv n 4
    | _ => aPrb n 4) gainDepth).toNat 15 0
  let codes := channelCodes outs gain
  let vsat := outs.map (fun o => o.any (·.2))
  let csat := codes.any (·.2)
  let mask := vsat.foldr (fun b n => 2 * n + b2n b) 0
  let s1 := s.putCodes cls n (codes.map (fun (c : Int × Bool) => c.1))
  let s2 := match cls with
    | .drv => s1.setRegN (aDrv n 0xC) (Nat.lor (s1.regN (aDrv n 0xC)) (mask + 16 * b2n csat))
    | _ => (s1.setRegN (aPrb n 0x14) (Nat.lor (s1.regN (aPrb n 0x14)) mask)).setRegN (aPrb n 0xC)
        (Nat.lor (s1.regN (aPrb n 0xC)) (b2n csat))
  if csat || vsat.any id then s2.count (match cls with
    | .drv => aDrv n 0x10
    | _ => aPrb n 0x10) 1
  else s2

/-- The channel a voice target belongs to. -/
def voiceChan (k : Nat) : OutClass × Nat :=
  match tgtKind (k % 256) with
  | .drv => (.drv, tgtChan (k / 256) (k % 256))
  | _ => (.prb, tgtChan (k / 256) (k % 256))

/-- Voice `k` takes its samples of the frame; a stream of zeros with nothing playing is kept no longer. -/
def State.synthVoice (s : State) (k : Nat) : State :=
  let r := s.voiceFrame k
  let v := sget .init s.voices k
  let line := r.1 :: (if v.line.isEmpty then s.idleLine v else v.line).take 31
  let quiet := line.all (fun v => v.e0 == ⟨0, 0⟩ && v.e1 == ⟨0, 0⟩ && !v.active)
  { s with voices := sset .init s.voices k { r.2 with line := if quiet then [] else line } }

/-- Voice synthesis of the frame: every voice that plays, or whose stream still holds samples, takes its samples, and
its channel forms its codes; the codes of other channels are 0 (R215). -/
def State.synthVoices (s : State) : State :=
  let playing := (s.plays.filter (fun p => p.2.entry.cls ≠ 1)).map (fun (p : Nat × Play) => p.1)
  let held := (s.voices.filter (fun (v : Nat × Voice) => !v.2.line.isEmpty)).map (fun (v : Nat × Voice) => v.1)
  let keys := playing ++ held.filter (fun k => !playing.contains k)
  let s1 := forEach keys (fun k s => s.synthVoice k) s
  (keys.foldl (fun (acc : State × List (OutClass × Nat)) k =>
    let ch := voiceChan k
    if acc.2.contains ch then acc else (acc.1.synthChannel ch.1 ch.2, ch :: acc.2)) (s1, [])).1

/-! ## Flux synthesis (R239 to R247) -/

/-- A coefficient of bank `bank` for the samples of the frame `k` frames ago, where bit `b` of `ctl` selects the live
bank: a write to the live bank acts from 2 frames later on, one to the other bank at once (R246, R294). -/
def State.coefAt (s : State) (a bank ctl b k : Nat) : Word :=
  if bitsOf (s.wordAgo ctl (k + 1)).toNat b b = bank then s.wordAgo a (k + 2) else s.wordAgo a (k + 1)

/-- One code in the units of the flux chain: 2^40, fine enough for the exact x of R241 and for 40 bits of
state (R243). -/
def fluxOne : Int := 2 ^ 40

/-- `FLX.OFFSET.CODE` of output `n` in the play frame `k` frames ago, in the units of the chain. -/
def State.fluxOffset (s : State) (n k : Nat) : Int := sbitsOf (s.wordAgo (aFlx n 8) k).toNat 15 0 * fluxOne

/-- `FLX.PRED_CTRL` of output `n` for the samples of the play frame `k` frames ago (R245). -/
def State.fluxCtl (s : State) (n k : Nat) : Nat := (s.wordAgo (aFlx n 0x14) k).toNat

/-- A coefficient of the bank that output `n` uses for those samples, at offset `o` of the bank. -/
def State.fluxCoef (s : State) (n o k : Nat) : Word :=
  let bank := bitsOf (s.fluxCtl n k) 0 0
  s.coefAt (aFlx n (0x100 + 0x100 * bank + o)) bank (aFlx n 0x14) 0 k

/-- The FIR taps of output `n` for those samples (R244). -/
def State.fluxTaps (s : State) (n k : Nat) : List Int :=
  (List.range 48).map (fun j => sbitsOf (s.fluxCoef n (0x40 + 4 * j) k).toNat 17 0)

/-- One sample of this frame through the eight IIR sections (R243): the new states, and the output of section 7. -/
def State.iirChain (s : State) (n : Nat) (states : List Int) (x : Int) : List Int × Int :=
  let on := bitOf (s.fluxCtl n 0) 1
  (List.range 8).foldl (fun (acc : List Int × Int) i =>
    let alpha := (s.fluxCoef n (8 * i) 0).setWidth 24
    let beta := (s.fluxCoef n (8 * i + 4) 0).setWidth 24
    if !on || alpha == 0 || beta == 0 then (acc.1 ++ [acc.2], acc.2)
    else
      let r := Config.iirStep alpha beta acc.2 (states.getD i 0)
      (acc.1 ++ [r.1], r.2)) ([], x)

/-- The FIR output before rounding, in units of 2^−56 of a code, for the sample `d` places behind the newest in the
line, of the play frame `fluxDepth` frames ago (R244). -/
def State.firSum (s : State) (n d : Nat) (line : List Int) : Int :=
  if !bitOf (s.fluxCtl n fluxDepth) 2 then line.getD d 0 * 65536
  else ((s.fluxTaps n fluxDepth).zip (line.drop (d - 8))).foldl (fun acc p => acc + p.1 * p.2) 0

/-- The chain of an output that has held the idle level `v` for ever (R247). -/
def Chain.idle (v : Int) : Chain := ⟨List.replicate 8 v, List.replicate 84 v, []⟩

/-- The chain of output `n` as the frame finds it: where OFFSET has changed with this frame and no segment plays, it is
set to the new idle level, and the samples before keep their own line (R247, R256). -/
def State.fluxChain (s : State) (n : Nat) (playing : Bool) : Chain :=
  let v0 := s.fluxOffset n 1
  let v1 := s.fluxOffset n 0
  let ch := (firstSome s.chains (fun (p : Nat × Chain) => if p.1 = n then some p.2 else none)).getD (.idle v0)
  if v0 ≠ v1 ∧ !playing then { Chain.idle v1 with olds := ch.olds ++ [(s.ticks, v0, ch.line)] } else ch

/-- Frame codes of a flux output with exact values `z` in units of 2^−56, its saturation flag, and its count (R242). -/
def State.fluxCodes (s : State) (n : Nat) (z : List Int) : List Int × State :=
  let r := z.map (fun z => rneInt z 56)
  let codes := r.map (satInt 16)
  (codes, if r ≠ codes then (s.raise (aFlx n 0xC) 0).count (aFlx n 0x10) 1 else s)

/-- One frame of flux output `n`: two samples in, two codes of the play frame `fluxDepth` frames ago out (R241 to
R245). A chain that is back at its idle level is kept no longer. -/
def State.synthFlux (s : State) (n : Nat) : State :=
  let play := s.playOn (tkey (n / 32) (64 + n % 32))
  let ch := s.fluxChain n play.isSome
  let ofs := s.fluxOffset n 0
  let x := match play with
    | some p =>
      let e := p.samples 0 s.ticks
      (e.1.re * p.scale * (fluxOne / 32768) + ofs, e.2.re * p.scale * (fluxOne / 32768) + ofs)
    | none => (ofs, ofs)
  let r0 := s.iirChain n ch.iir x.1
  let r1 := s.iirChain n r0.1 x.2
  let line := (r1.2 :: r0.2 :: ch.line).take 84
  let olds := (ch.olds.map (fun (o : Nat × Int × List Int) => (o.1, o.2.1, (o.2.1 :: o.2.1 :: o.2.2).take 84))).filter
    (fun o => decide (s.ticks < o.1 + fluxDepth))
  let from_ := match olds with
    | o :: _ => o.2.2
    | [] => line
  let d := 2 * fluxDepth + 1
  let (codes, s1) := s.fluxCodes n [s.firSum n d from_, s.firSum n (d - 1) from_]
  let next : Chain := ⟨r1.1, line, olds⟩
  { s1 with chains :=
    if play.isNone ∧ next = Chain.idle ofs then serase s1.chains n else sins (serase s1.chains n) n next }.putCodes .flx n codes

/-- The exact value of an output at its idle level, for the play frame `k` frames ago (R244). -/
def State.idleFlux (s : State) (n k : Nat) : Int :=
  let v := s.fluxOffset n k
  if bitOf (s.fluxCtl n k) 2 then v * (s.fluxTaps n k).sum else v * 65536

/-- Flux synthesis of the frame: every output that plays, has a chain or leaves its idle level; the others are at that
level, which may be limited too (R242). -/
def State.synthFluxes (s : State) : State :=
  let a := (s.plays.filter (fun p => p.2.entry.cls = 1)).map (fun p => tgtChan (p.1 / 256) (p.1 % 256))
  let b := s.chains.map (fun (c : Nat × Chain) => c.1)
  let moves (n : Nat) : Bool := s.wordAgo (aFlx n 8) 1 ≠ s.wordAgo (aFlx n 8) 0
  let busy (n : Nat) : Bool := a.contains n || b.contains n || moves n
  let idle := (List.range 512).filter (fun n =>
    !busy n && bitOf (s.fluxCtl n fluxDepth) 2 && s.fluxOffset n fluxDepth != 0)
  forEach idle (fun n s => (s.fluxCodes n [s.idleFlux n fluxDepth]).2)
    (forEach ((List.range 512).filter busy) (fun n s => s.synthFlux n) s)

/-- Every flux output is set to its idle level (R247). -/
def State.idleChains (s : State) : State :=
  { s with chains := [], dac := s.dac.filter (fun d => decide (d.1 < 2048 ∨ 4096 ≤ d.1)) }

end Sys2Proof.Machine
end

