-- ==== Sys2Proof/Machine/TrackBatch.lean ====
section
/-!
DEFINITION. Tracker items (R447), whether a tracker runs (R430), and the samples that DISC and PUMP take from
the foreground (R439, R440).
-/
namespace Sys2Proof.Machine

/-- Word `j` of item `i` of cluster `c` (R447). -/
def State.itemWord (s : State) (c i j : Nat) : Nat := s.regN (aCl c (0x3000 + 0x20 * i + 4 * j))

/-- The fields of word `j` of an item of tracker `trk`, as bounds of their bits (R447). -/
def itemBits (trk j : Nat) : List (Nat × Nat) :=
  match j with
  | 0 => (31, 28) :: (match trk with
    | 0 | 2 => [(25, 16), (14, 0)]
    | 1 => [(25, 16)]
    | 3 => [(16, 16)]
    | _ => [])
  | 1 => if trk < 4 then [(31, 0)] else []
  | 2 => match trk with
    | 0 | 2 => [(29, 0)]
    | 1 | 3 => [(31, 0)]
    | _ => []
  | 3 => match trk with
    | 0 | 2 => [(28, 0)]
    | 1 => [(31, 0)]
    | 3 => [(15, 0)]
    | _ => []
  | 4 => match trk with
    | 0 => [(31, 16)]
    | 1 => [(31, 0)]
    | 2 => [(31, 16), (8, 0)]
    | _ => []
  | 5 => match trk with
    | 1 => [(23, 0)]
    | 2 => [(31, 0)]
    | _ => []
  | _ => []

/-- The bits of item word `j` that tracker `trk` has fields in taken from `v`, the rest from `old` (R12, R447). -/
def itemMerge (trk j old v : Nat) : Nat :=
  (itemBits trk j).foldl (fun n b => withBits n b.1 b.2 (bitsOf v b.1 b.2)) old

/-- The thermal level (R503). -/
def State.thermLevel (s : State) : Nat := s.fld 0x03000000 1 0

/-- Whether the vendor library runs at the base level of the core of cluster `c` (R342, R431). -/
def State.libraryRuns (s : State) (c : Nat) : Bool :=
  let x := (s.rd c).state
  bitOf (s.regN (aRd c 0)) 1 && (x == 1 || x == 2 || x == 3)

/-- Whether item `i` of tracker `trk` runs in cluster `c` in this mode: DISC and PUMP are the library's (R430, R431). -/
def State.itemRuns (s : State) (c trk i : Nat) : Bool :=
  let w := s.itemWord c i 0
  decide (s.mode = .run) && !s.contained c && bitOf (s.fld (aCl c 0x2000) 3 0) trk
    && bitOf w 31 && decide (bitsOf w 30 28 = trk)
    && (trk % 2 = 0 || s.libraryRuns c)

/-- The number of a batch. -/
def batchKey (trk i : Nat) : Nat := 64 * trk + i

def State.batch (s : State) (c trk i : Nat) : Batch := sget .init (s.trk c).batches (batchKey trk i)
def State.modBatch (s : State) (c trk i : Nat) (f : Batch → Batch) : State :=
  s.modTrk c (fun t => { t with batches := supd .init t.batches (batchKey trk i) f })

/-- The state code of a complete shot is counted (R438). -/
def State.countShot (s : State) (c trk i : Nat) (plus one : Bool) : State :=
  s.modBatch c trk i (fun b =>
    if plus then { b with counted := b.counted + 1, plus := b.plus + b2n one }
    else { b with counted := b.counted + 1, minus := b.minus + b2n one })

/-- M of an item: the size of its batch (R438 to R440, R447). -/
def State.itemM (s : State) (c trk i : Nat) : Nat :=
  bitsOf (s.itemWord c i (if trk = 1 then 5 else 3)) 15 0

/-- DISC takes a foreground window of slot `slot` with its point and code (R439). -/
def State.discSample (s : State) (slot : Nat) (code : BitVec 2) (p q : Int) : State :=
  let c := slot / 64
  if code.getLsbD 1 then s
  else forEach (List.range 64) (fun i s =>
    if s.itemRuns c 1 i && decide (bitsOf (s.itemWord c i 0) 25 16 = slot)
        && decide ((s.batch c 1 i).n0 + (s.batch c 1 i).n1 < s.itemM c 1 i) then
      s.modBatch c 1 i (fun b =>
        if code.getLsbD 0 then { b with n1 := b.n1 + 1, i1 := b.i1 + p, q1 := b.q1 + q }
        else { b with n0 := b.n0 + 1, i0 := b.i0 + p, q0 := b.q0 + q })
    else s) s

/-- PUMP takes the mean square of a detector block of input `n` (R440). -/
def State.pumpSample (s : State) (n ms : Nat) : State :=
  let c := n / 2
  forEach (List.range 64) (fun i s =>
    if s.itemRuns c 3 i && decide (bitsOf (s.itemWord c i 0) 16 16 = n % 2)
        && decide ((s.batch c 3 i).blocks < s.itemM c 3 i) then
      s.modBatch c 3 i (fun b => { b with blocks := b.blocks + 1, sum := b.sum + ms })
    else s) s

end Sys2Proof.Machine
end

