-- ==== Sys2Proof/Machine/Windows.lean ====
section
/-!
DEFINITION. Integration windows and their results: opening and cutting (R298 to R303), integration
(R299), the discriminator (R305), records (R374 to R379) and tags (R309).
-/
namespace Sys2Proof.Machine

/-- The addition A of a slot's committed chain settings (R295). -/
def State.chainAdd (s : State) (i : Nat) : Nat :=
  let w := s.regN (aSlot i 0xC)
  let hb := bitsOf w 1 0
  (if hb = 2 then 24 else if hb = 3 then 72 else 0)
    + (if bitOf w 4 then 2 + bitsOf w 13 8 * 2 ^ hb else 0)

/-- The ball tick W_b of a window's last sample (R298). -/
def Win.last (w : Win) : Nat := w.tick + w.len + 31

/-- The tick in which a window's I and Q are ready (R302). -/
def Win.dumpAt (w : Win) : Nat := w.last + 22 + w.add

/-- The tick C in which a window's state code is ready (R302). -/
def Win.codeAt (w : Win) : Nat := w.last + 24 + w.add

/-! ## The chain (R287 to R297) -/

/-- The place of ADC sample `k` of play-timeline tick `t` in the stream of an input. -/
def samplePos (t k : Nat) : Nat := 8 * (t + 2 ^ 20) + k

/-- How many frames ago the play frame of stream place `p` was. -/
def State.posAge (s : State) (p : Nat) : Nat := s.ticks + 2 ^ 20 - p / 8

/-- The ADC sample index m of stream place `p` (R284). -/
def State.sampleIndex (s : State) (p : Nat) : Nat := ((p : Int) - 8 * 2 ^ 20 - 8 * s.lagAt (p / 8 - 2 ^ 20)).toNat

/-- Whether the converters sample in tick `b` at the ball: in SLEEP they are off (R54, R59). -/
def State.sampledAt (s : State) (b : Nat) : Bool :=
  !s.modes.slept.any (fun r => decide (r.1 ≤ b ∧ b < r.2)) && !(s.mode = .sleep && decide (s.modes.safeFrame ≤ b))

/-- The ADC code of input `n` at stream place `p` (R284, R286); what it is while the converters are off is free (log
entry 69). -/
def State.adcAt (s : State) (n p : Nat) : Int :=
  if s.sampledAt (p / 8 + 32 - 2 ^ 20) then Config.adcCode n (8 * s.moment 0 + p)
  else (Config.adcOff n (8 * s.moment 0 + p)).toInt

/-- The NCO mix of slot `i` at stream place `p`, 64 units to an ADC code (R287, R291): frequency and phase are those in
force in its play frame (R289). -/
def State.mixAt (s : State) (i p : Nat) : Cpx :=
  let k := s.posAge p
  let f := (s.wordAgo (aSlot i 4) k ++ s.wordAgo (aSlot i 0) k).setWidth 48
  let th := slotPhase f (s.wordAgo (aSlot i 8) k) (s.sampleIndex p)
  let x := 64 * s.adcAt (i / 32) p
  ⟨Config.stageNarrow 0 (x * cosTurn th) sinScale, Config.stageNarrow 0 (-(x * sinTurn th)) sinScale⟩

/-- A weighted sum of chain samples as an 18-bit output of stage `k` with weights of sum `d` (R291). -/
def chainSum (k : Nat) (d : Int) (l : List (Int × Cpx)) : Cpx :=
  ⟨Config.stageNarrow k ((l.map (fun x => x.1 * x.2.re)).sum) d,
    Config.stageNarrow k ((l.map (fun x => x.1 * x.2.im)).sum) d⟩

/-- The CIC output of slot `i` whose reference tap stands at stream place `p` (R290, R292). -/
def State.cicAt (s : State) (i p : Nat) : Cpx :=
  let q := p + (if Config.cicLate then 18 else 17)
  chainSum 1 32768 ((List.range 36).map (fun j => (cicTaps.getD j 0, s.mixAt i (q - j))))

/-- The output of half-band stage `k` of slot `i` at stream place `p` (R290); stage 0 is the CIC decimator. Each stage
has a DC gain of 1 (R291). -/
def State.halfBandAt (s : State) (i k p : Nat) : Cpx :=
  match k with
  | 0 => s.cicAt i p
  | k + 1 =>
    let d := 8 * 2 ^ k
    chainSum (k + 2) (2 ^ 24) ((mirrored (withCentre (halfBandTaps (k + 1)))).zipIdx.map (fun x =>
      (x.1, s.halfBandAt i k (p + 31 * d - d * x.2))))

/-- Whether the stages of slot `i` were cleared after the sample of stream place `p` had reached the ball, and not after
that of place `q` had (R297). -/
def State.clearedIn (s : State) (i p q : Nat) : Bool :=
  (s.slot i).clears.any (fun c => decide (p / 8 + 32 < c + 2 ^ 20 ∧ c + 2 ^ 20 ≤ q / 8 + 32))

/-- The output of slot `i` at stream place `p` once its stages have filled: that of the channel FIR, or of the
half-bands where it is not in use; settings and taps are those in force in its play frame (R293, R294, R300). -/
def State.firAt (s : State) (i p : Nat) : Cpx :=
  let k := s.posAge p
  let w := (s.wordAgo (aSlot i 0xC) k).toNat
  let hb := bitsOf w 1 0
  if !bitOf w 4 then s.halfBandAt i hb p
  else
    let bank := bitsOf w 5 5
    let tap (j : Nat) : Int := sbitsOf (s.coefAt (0x40004000 + 0x10000 * (i / 32) + 0x100 * (2 * (i % 32) + bank) + 4 * j)
      bank (aSlot i 0xC) 5 k).toNat 17 0
    let v (j : Nat) : Cpx :=
      let q := p + 8 * 2 ^ hb * bitsOf w 13 8 - 8 * 2 ^ hb * j
      if s.clearedIn i q p then ⟨0, 0⟩ else s.halfBandAt i hb q
    let l := (List.range 64).map (fun j => (tap j, v j))
    ⟨Config.firNarrow ((l.map (fun x => x.1 * x.2.re)).sum), Config.firNarrow ((l.map (fun x => x.1 * x.2.im)).sum)⟩

/-- The chain output of slot `i` at stream place `p` (R293); it is not meaningful while its ball frame lies within the
640 frames from a clear on (R297). -/
def State.chainAt (s : State) (i p : Nat) : Cpx :=
  if (s.slot i).clears.any (fun c => decide (c + 2 ^ 20 ≤ p / 8 + 32 ∧ p / 8 + 32 < c + 2 ^ 20 + 640)) then
    Config.chainNoise i (8 * s.moment 0 + p)
  else s.firAt i p

/-- The ticks from `a` to before `b` whose first ADC sample carries a tag of slot `i` (R292): tags are the multiples of
D, and D is 8 × 2^HB. -/
def State.tagTicks (s : State) (i a b : Nat) : List Nat :=
  ((List.range (b - a)).map (fun k => a + k)).filter (fun t =>
    s.numberAt t % 2 ^ bitsOf (s.wordAgo (aSlot i 0xC) (s.ticks - t)).toNat 1 0 == 0)

/-- The ticks of a window's samples (R298). -/
def State.winTicks (s : State) (i : Nat) (w : Win) : List Nat := s.tagTicks i w.tick (w.tick + w.len)

/-- The stage states of slot `i` are cleared in this frame (R297). -/
def State.clearChain (s : State) (i : Nat) : State := s.modSlot i (fun x => { x with clears := x.clears ++ [s.ticks] })

/-- Whether the chain output of slot `i` is not meaningful in this frame (R297). -/
def State.chainSettles (s : State) (i : Nat) : Bool :=
  (s.slot i).clears.any (fun c => decide (c ≤ s.ticks ∧ s.ticks < c + 640))

/-- The zone of input `n` changes in this frame (R285). -/
def State.settleZone (s : State) (n : Nat) : State := s.modInput n (fun x => { x with zones := x.zones ++ [s.ticks] })

/-- Whether input `n` settles after a change of its zone: from the frame after it, for 10,000 frames (R285). -/
def State.zoneSettles (s : State) (n : Nat) : Bool :=
  (s.input n).zones.any (fun z => decide (z < s.ticks ∧ s.ticks ≤ z + 10000))

/-! ## Windows -/

/-- Whether a window is open in tick `f`. -/
def Win.openAt (w : Win) (f : Nat) : Bool := decide (w.tick ≤ f ∧ f < w.tick + w.len)

/-- Whether the ball frames of a window's samples meet the ticks from `a` to before `b` (R285). -/
def Win.meets (w : Win) (a b : Nat) : Bool := decide (w.tick + 32 < b ∧ a < w.tick + w.len + 32)

/-- Whether a window of slot `i` with samples overlaps a settling time (R285, R297). -/
def State.winSettles (s : State) (i : Nat) (w : Win) : Bool :=
  !(s.winTicks i w).isEmpty
    && ((s.input (i / 32)).zones.any (fun z => w.meets (z + 1) (z + 10001))
      || (s.slot i).clears.any (fun c => w.meets c (c + 640)))

/-- A window of slot `i` that opens in this frame with the settings in force (R300). -/
def State.newWindow (s : State) (i len : Nat) (recd rd : Bool) (trk : Option (Nat × Nat × Bool)) : Win :=
  let w := s.regN (aSlot i 0x14)
  { t := s.frame, tick := s.ticks, len := len, recd := recd, rd := rd, mode := bitOf w 24, nw := bitsOf w 12 0,
    shift := bitsOf w 20 16, wbank := bitsOf w 25 25, add := s.chainAdd i, cut := false, overRange := false,
    noCode := false, trk := trk, res := none }

/-- An ACQUIRE released in this frame on slot `i`: the slot's D-bits lose their valid flags (R159), earlier
windows lose their code writes (R304), an open one is cut (R303), and the new one reads its settings
(R300). -/
def State.openWindow (s : State) (i len : Nat) (recd rd : Bool) : State :=
  let s1 := (s.clearDbit (2 * i)).clearDbit (2 * i + 1)
  let t := s.ticks
  s1.modSlot i (fun x => { x with
    codes := [],
    wins := x.wins.map (fun v =>
      let v1 := { v with noCode := v.noCode || v.trk.isNone }
      if v.openAt t then { v1 with len := t - v.tick, cut := true } else v1) ++ [s.newWindow i len recd rd none] })

/-- Weight `k` of bank `b` of slot `i` as it was `age` frames ago (R301). -/
def State.weight (s : State) (i b k age : Nat) : Cpx :=
  let w := (s.wordAgo (0x48000000 + 0x8000 * i + 0x4000 * b + 4 * k) age).toNat
  ⟨sbitsOf w 15 0, sbitsOf w 31 16⟩

/-- The weighted sum of a window of slot `i` over its chain samples (R299); a sample meets its weight in its ball frame
(DESIGN CHOICE, log entry 29). -/
def State.integrate (s : State) (i : Nat) (w : Win) : Cpx :=
  let l := s.winTicks i w
  (l.take (if w.mode then l.length else w.nw)).zipIdx.foldl (fun acc (x : Nat × Nat) =>
    let z := s.chainAt i (samplePos x.1 0)
    let g : Cpx := if w.mode then ⟨1, 0⟩ else s.weight i w.wbank x.2 (s.ticks - (x.1 + 32))
    ⟨acc.re + g.re * z.re - g.im * z.im, acc.im + g.re * z.im + g.im * z.re⟩) ⟨0, 0⟩

/-- The reported I and Q, and whether either was limited (R299). -/
def report (w : Win) (acc : Cpx) : Int × Int × Bool :=
  let i := rneInt acc.re w.shift
  let q := rneInt acc.im w.shift
  (satInt 24 i, satInt 24 q, decide (satInt 24 i ≠ i ∨ satInt 24 q ≠ q))

/-- The state code of a reported point (R305). -/
def State.discriminate (s : State) (i : Nat) (p q : Int) : BitVec 2 :=
  let line (k : Nat) : Nat :=
    let w := s.regN (aSlot i (0x20 + 8 * k))
    let c := sbitsOf (s.regN (aSlot i (0x24 + 8 * k))) 31 0
    b2n (decide (c * 256 ≤ sbitsOf w 15 0 * p + sbitsOf w 31 16 * q))
  let ix := 4 * line 2 + 2 * line 1 + line 0
  BitVec.ofNat 2 (s.regN (aSlot i 0x38) / 4 ^ ix)

/-- Whether a window carries `UNDERRUN` or `LATE_SELECT` for the frames `gs` of its cluster (R279). -/
def winTagged (w : Win) (span : Nat) (gs : List Nat) : Bool :=
  gs.any (fun g => decide (max w.t g < min (w.t + w.len) (g + 4) ∨ (g ≤ w.t ∧ w.t < g + span)))

/-- The tags of a window's record (R309). -/
def State.winTags (s : State) (i : Nat) (w : Win) (sat : Bool) : Nat :=
  let c := s.cl (i / 64)
  let span := s.fld (aCl (i / 64) 0xC10) 23 0
  b2n (s.winTicks i w).isEmpty + 2 * b2n w.cut + 4 * b2n sat + 8 * b2n w.overRange + 16 * b2n (s.winSettles i w)
    + 32 * b2n (winTagged w span c.missing) + 64 * b2n (winTagged w span c.lateSucc)

/-- A number's low `n` bytes for a signed value. -/
def leSigned (n : Nat) (v : Int) : List Byte := leBytes n (v % (2 ^ (8 * n) : Int)).toNat

/-- The bytes of a full RESULT record (R374). -/
def fullBytes (tag slot : Nat) (code : BitVec 2) (rdsp fc p loss : Bool) (i q : Int) (tags : Nat) :
    List Byte :=
  leBytes 6 tag
    ++ leBytes 2 (slot + 1024 * code.toNat + 4096 * b2n rdsp + 8192 * b2n fc + 16384 * b2n p
      + 32768 * b2n loss)
    ++ leSigned 3 i ++ leSigned 3 q ++ leBytes 2 (tags % 128)

/-- A full record of a slot is formed, or suppressed by the rate rule, which looks to the last one emitted (R377). -/
def State.fullRecord (s : State) (tag slot : Nat) (code : BitVec 2) (rdsp fc p : Bool) (i q : Int)
    (tags : Nat) : State :=
  let sl := s.slot slot
  let soon := match sl.lastRec with
    | some f => decide (s.ticks < f + 2000)
    | none => false
  if soon then
    ((s.raise 0x70000000 1).count 0x70000004 1).modSlot slot (fun x => { x with rateLoss := true })
  else
    let r := fullBytes tag slot code rdsp fc p sl.rateLoss i q tags
    let s1 := s.emit false r
    if s.streaming && s.emitRoom r then
      s1.modSlot slot (fun x => { x with lastRec := some s.ticks, rateLoss := false })
    else s1

/-- A window enters the merged record of its input and period (R378, R379). -/
def State.mergeWindow (s : State) (slot : Nat) (w : Win) (code : BitVec 2) (tagged : Bool) : State :=
  let j := slot % 32
  let k := w.t / 1000
  let old := sget [] s.cap.merge (slot / 32)
  let m := (firstSome old (fun m => if m.period = k then some m else none)).getD
    ⟨k, w.tick + ((k + 1) * 1000 + 9000 - w.t), 0, 0, 0, 0⟩
  let bit : Word := BitVec.ofNat 32 (2 ^ j)
  let m1 : Merge :=
    { m with
      present := m.present ||| bit,
      multi := if m.present &&& bit ≠ 0 then m.multi ||| bit else m.multi,
      tagged := if tagged then m.tagged ||| bit else m.tagged,
      codes := BitVec.ofNat 64 (withBits m.codes.toNat (2 * j + 1) (2 * j) code.toNat) }
  let all := sset [] s.cap.merge (slot / 32) (m1 :: old.filter (fun m => m.period ≠ k))
  { s with cap := { s.cap with merge := all } }

/-- The Pauli bit that a slot's BASIS selects, if it selects one (R353). -/
def State.frameBit (s : State) (slot : Nat) : Option Bool :=
  let w := s.regN (0x6000C000 + 4 * slot)
  let p := s.pauli (bitsOf w 9 0)
  match bitsOf w 13 12 with
  | 0 => none
  | 1 => some p.1
  | 2 => some p.2
  | _ => some (p.1 != p.2)

/-- Whether the slot's queue holds an ACQUIRE for frame `f` or earlier (R304). -/
def State.acquireBy (s : State) (slot f : Nat) : Bool :=
  (s.tq (tkey (slot / 64) (160 + slot % 64))).held.any (fun e => !e.tentative && decide (e.t ≤ f)
    && (match e.kind with
      | .acquire .. => true
      | _ => false))

/-- I and Q of a window are dumped (R302): `ACQ.SLOT_LAST_I`, `_Q` and `INT_SAT`. -/
def State.dumpWindow (s : State) (slot : Nat) (w : Win) : State :=
  let empty := (s.winTicks slot w).isEmpty
  let r := if empty then (0, 0, false) else report w (s.integrate slot w)
  let s1 := s.modSlot slot (fun x => { x with
    wins := x.wins.map (fun v => if v.tick = w.tick then { v with res := some r } else v) })
  let s2 := if r.2.2 then s1.raise (aSlot slot 0x40) 0 else s1
  if empty then s2
  else (s2.setReg (aSlot slot 0x50) (BitVec.ofInt 32 r.1)).setReg (aSlot slot 0x54) (BitVec.ofInt 32 r.2.1)

/-- The state code of a tracker's window goes to its shot, or into the batch where the shot is complete (R433, R438). -/
def State.shotCode (s : State) (c : Nat) (trk item tick : Nat) (plus one : Bool) : State :=
  if (s.trk c).shots.any (fun x => x.win == some tick) then
    s.modTrk c (fun t => { t with shots := t.shots.map (fun x =>
      if x.win = some tick then { x with code := some one } else x) })
  else s.countShot c trk item plus one

/-- The window of a tracker's shot ends: its code is the tracker's alone, and none where the shot was abandoned (R433,
R435). -/
def State.finishShotWindow (s : State) (slot : Nat) (w : Win) (t : Nat × Nat × Bool) (r : Int × Int × Bool) : State :=
  let one := !(s.winTicks slot w).isEmpty && (s.discriminate slot r.1 r.2.1).getLsbD 0
  let s1 := s.modSlot slot (fun x => { x with wins := x.wins.filter (fun v => v.tick ≠ w.tick) })
  if w.noCode then s1 else s1.shotCode (slot / 64) t.1 t.2.1 w.tick t.2.2 one

/-- The state code of a foreground window is formed in frame C, with its record, hand-in and code write
(R302 to R304, R320, R353, R376, R565). A window of length 0 with RD = 1 hands in an EMPTY entry (R190; DESIGN CHOICE, log
entry 69). -/
def State.finishWindow (s : State) (slot : Nat) (w : Win) (r : Int × Int × Bool) : State :=
  let empty := (s.winTicks slot w).isEmpty
  let code : BitVec 2 := if empty then 0 else s.discriminate slot r.1 r.2.1
  let write := !empty && !w.cut && !w.noCode && !s.acquireBy slot (s.numberAt (w.codeAt + 4))
  let fcp := if write then s.frameBit slot else none
  let fixed : BitVec 2 := match fcp with
    | some p => if code.getLsbD 1 then code else code ^^^ (BitVec.ofNat 2 (b2n p))
    | none => code
  let tags := s.winTags slot w r.2.2
  let s0 := if empty || decide (tags ≠ 0) then s else s.discSample slot code r.1 r.2.1
  let s1 := if empty then s0 else s0.setRegN (aSlot slot 0x58) code.toNat
  let s2 := if w.cut then s1.raise (aSlot slot 0x40) 2 else s1
  let hand : HandIn :=
    { due := w.codeAt + 5, i := r.1, q := r.2.1, code := code, slot := slot,
      tags := BitVec.ofNat 7 tags, t := w.t }
  let s3 := s2.modSlot slot (fun x => { x with
    wins := x.wins.filter (fun v => v.tick ≠ w.tick),
    codes := if write then x.codes ++ [⟨w.codeAt + 4, fixed⟩] else x.codes,
    hands := if w.rd then x.hands ++ [hand] else x.hands })
  if !w.recd then s3
  else if bitOf (s.regN (0x70000100 + 4 * (slot / 32))) (slot % 32) then
    s3.mergeWindow slot w code (decide (tags ≠ 0))
  else s3.fullRecord w.t slot code false fcp.isSome (fcp.getD false) r.1 r.2.1 tags

end Sys2Proof.Machine
end

