-- ==== Sys2Proof/Machine/SeqEvents.lean ====
section
/-!
DEFINITION. The event queues: acceptance (R154 to R157), select deadlines (R163), release (R158, R159),
markers (R232, R233) and lateness records (R162).
-/
namespace Sys2Proof.Machine

/-- `UC_RESTART_LATE` in cluster `c`: the event is gone, and the cluster has faulted (R416). -/
def State.restartLate (s : State) (c : Nat) : State :=
  (s.raise (aCl c 0x1000) 8).clusterFaultAfter (fun s => s.raise (aCl c 0x1000) 8) c 0x05

/-- An event is lost for being late: `LATE_EVENT`, or `UC_RESTART_LATE` in a section that re-runs (R154,
R416). -/
def State.lateEvent (s : State) (c tgt : Nat) (e : Ev) : State :=
  if e.rerun then s.restartLate c else s.seqCond .lateEvent e.seq tgt e.t

/-- Whether an event breaks the order of a queue (R156). -/
def TQueue.conflicts (q : TQueue) (e : Ev) : Bool :=
  q.held.any (fun x => decide (e.t < x.t) || (e.kind.isPlay && x.kind.isPlay && decide (x.t = e.t)))

/-- EVENT_ACCEPT: the first event on its way that has travelled 4 frames is accepted or dropped. -/
def execEventAccept (cl : Fin 16) (tgt : Fin 228) (s : State) : Host.Outcome State Fault Refusal :=
  .next (
    let k := tkey cl.val tgt.val
    match (s.tq k).flight with
    | [] => s
    | e :: rest =>
      if s.frame < e.issue + 4 then s
      else
        let s1 := s.modTq k (fun q => { q with flight := rest })
        if e.t < e.issue + 24 then s1.lateEvent cl.val tgt.val e
        else if (s1.tq k).conflicts e then s1.seqCond .stampConflict e.seq tgt.val e.t
        else s1.modTq k (fun q => { q with held := q.held ++ [e] }))

/-- The Pauli-frame term of a CPLAY select (R163, R192). -/
def State.pfTerm (s : State) (pf q : Nat) : Bool :=
  let p := s.pauli q
  match pf with
  | 0 => false
  | 1 => p.1
  | 2 => p.2
  | _ => p.1 != p.2

/-- SELECT_DEADLINE: the first undecided CPLAY of the queue whose deadline has come is decided; one whose alternatives are
both null is never late (R163 to R165). -/
def execSelectDeadline (cl : Fin 16) (tgt : Fin 228) (s : State) : Host.Outcome State Fault Refusal :=
  .next (
    let k := tkey cl.val tgt.val
    let hit := firstSome (s.tq k).held (fun e => match e.kind with
      | .cplay c => if e.t ≤ s.frame + 4 ∧ c.chosen = none ∧ !e.tentative then some (e, c) else none
      | _ => none)
    match hit with
    | none => s
    | some (e, c) =>
      let ready := s.dbitReady c.dbit c.rc
      let v := if ready then (s.dbitSeen c.dbit).value != s.pfTerm c.pf c.qubit else c.dflt
      let s1 := s.modTq k (fun q => { q with held := q.held.map (fun x =>
        if x.id = e.id then { x with kind := .cplay { c with chosen := some v } } else x) })
      if ready || (c.n0 && c.n1) then s1 else s1.seqCond .lateSelect e.seq tgt.val e.t)

/-- A phase-class event acts on the live values of its slot (R193, R194, R220 to R222); a SETF moves the baseline (R443). -/
def State.phaseEvent (s : State) (c tgt : Nat) (k : EvKind) : State :=
  match k with
  | .setf fs w =>
    let b := aVoiceSlot c tgt fs
    let s1 := s.setReg64 (b + 0x10) w.toNat
    (s1.setBaseline b (s1.reg (b + 0x10))).setBaseline (b + 4) (s1.reg (b + 0x14))
  | .vz fs ph => s.setReg (aVoiceSlot c tgt fs + 0x18) (s.reg (aVoiceSlot c tgt fs + 0x18) + ph)
  | .phrst fs all =>
    forEach (if all then List.range 32 else [fs]) (fun j s =>
      s.setReg (aVoiceSlot c tgt j + 0x18) (s.reg (aVoiceSlot c tgt j + 8))) s
  | _ => s

/-- A play-class event starts at its play frame (R158, R159, R187 to R192). -/
def State.playEvent (s : State) (c tgt : Nat) (e : Ev) (ecc : Ecc) : State :=
  match e.kind with
  | .play seg fs => s.startEntry c tgt e.seq seg s.ticks fs 32768 none false ecc
  | .flux seg scale => s.startEntry c tgt e.seq seg s.ticks 0 scale.toInt none false ecc
  | .probe seg fs ao amp =>
    s.startEntry c tgt e.seq seg s.ticks fs 32768 (if ao then some amp else none) false ecc
  | .cplay p =>
    let v := p.chosen.getD p.dflt
    if (if v then p.n1 else p.n0) then s
    else s.startEntry c tgt e.seq (if v then p.seg1 else p.seg0) s.ticks (if v then p.fs1 else p.fs0) 32768
      none true ecc
  | .acquire len recd rd => s.openWindow (tgtChan c tgt) len recd rd
  | .mark w => s.modMarker (tgtChan c tgt) (fun m => { m with
      mark := cutSpans m.mark s.ticks ++ (if w = 0 then [] else [(s.ticks, s.ticks + w)]) })
  | _ => s

/-- EVENT_RELEASE: the events due leave the queue; phase-class events act in order of acceptance, then
a play-class event starts (R158). -/
def execEventRelease (cl : Fin 16) (tgt : Fin 228) (ecc : Ecc) (s : State) :
    Host.Outcome State Fault Refusal :=
  .next (
    let k := tkey cl.val tgt.val
    let due := (s.tq k).held.filter (fun e => decide (e.t ≤ s.frame) && !e.tentative)
    let s1 := s.modTq k (fun q => { q with
      held := q.held.filter (fun e => !(decide (e.t ≤ s.frame) && !e.tentative)) })
    let s2 := forEach (due.filter (fun e => !e.kind.isPlay))
      (fun e s => s.phaseEvent cl.val tgt.val e.kind) s1
    forEach (due.filter (fun e => e.kind.isPlay)) (fun e s => s.playEvent cl.val tgt.val e ecc) s2)

/-- TENTATIVE_ENTRY_DEADLINE: every entry still tentative 4 frames before its play frame is dropped (R416). -/
def execTentativeEntryDeadline (cl : Fin 16) (tgt : Fin 228) (s : State) :
    Host.Outcome State Fault Refusal :=
  .next (
    let k := tkey cl.val tgt.val
    let late (e : Ev) : Bool := e.tentative && decide (e.t ≤ s.frame + 4)
    let l := (s.tq k).held.filter late
    forEach l (fun e s => s.lateEvent cl.val tgt.val e)
      (if l.isEmpty then s else s.modTq k (fun q => { q with held := q.held.filter (fun e => !late e) })))

/-- The level a marker's pulses give at the ball in tick `f` (R232, R233). -/
def Marker.pulse (m : Marker) (f : Nat) : Bool :=
  (m.mark ++ m.trig).any (fun p => decide (p.1 + 32 ≤ f ∧ f < p.2 + 32))

/-- MARKER_PULSE_END: pulses are over once they have left the ball, up to 15 steps into the frame of their end
(R232 to R234). -/
def execMarkerPulseEnd (m : Fin 64) (s : State) : Host.Outcome State Fault Refusal :=
  .next (s.modMarker m.val (fun x => { x with
    mark := x.mark.filter (fun p => decide (s.ticks ≤ p.2 + 32)),
    trig := x.trig.filter (fun p => decide (s.ticks ≤ p.2 + 32)) }))

/-- LATENESS_REPORT: in the first frame of a reporting period, the record of the period just ended
(R162). -/
def execLatenessReport (cl : Fin 16) (s : State) : Host.Outcome State Fault Refusal :=
  .next (
    if s.frame % 65536 ≠ 0 then s
    else
      let l := (s.cl cl.val).late
      let s1 := s.modCl cl.val (fun x => { x with late := .init })
      if l.count = 0 ∨ s.fld (aCl cl.val 0x800) 0 0 = 0 then s1
      else s1.emit true ([4, 2] ++ leBytes 1 cl.val ++ leBytes 1 l.conds.toNat ++ leBytes 2 l.count
        ++ leBytes 1 l.seq ++ leBytes 1 l.target ++ leBytes 8 (s.frame - 65536) ++ leBytes 8 l.frame
        ++ List.replicate 8 0))

end Sys2Proof.Machine
end

