-- ==== Sys2Proof/Machine/Segments.lean ====
section
/-!
DEFINITION. Segments at work: granule fetches (R263, R277, R278), successors (R270 to R273), the Carafe
stop (R280), the write port (R262, R276), and the ends of output settling (R229, R248).
-/
namespace Sys2Proof.Machine

/-- A granule of a stream segment is taken from the ring, or is missing (R277, R278). -/
def State.fetchStream (s : State) (c k : Nat) (p : Play) : State :=
  let n := granBytes p.entry.cls
  let a := p.base + n * p.next
  let held := (List.range n).map (fun i => sget none (s.cl c).ring (a + i))
  let here := !p.lost && held.all (fun b => b.isSome)
  let s1 := if p.lost then s else s.modCl c (fun x => { x with
    ring := ringDrop x.ring a (a + n),
    dead := if here then x.dead else (a, a + n) :: x.dead })
  let env := if here then granSamples p.entry.cls (held.map (fun b => b.getD 0))
    else List.replicate 8 ⟨0, 0⟩
  let s2 := s1.setPlay k { p with next := p.next + 1, env := env }
  if here then s2 else s2.underrun c (s.numberAt (p.t + 4 * p.next))

/-- GRANULE_FETCH: the segment on a target fetches its next granule when its frame has come (R263). -/
def execGranuleFetch (cl : Fin 16) (tgt : Fin 228) (ecc : Ecc) (s : State) :
    Host.Outcome State Fault Refusal :=
  .next (
    let k := tkey cl.val tgt.val
    match s.playOn k with
    | none => s
    | some p =>
      if p.entry.len ≤ p.next ∨ s.ticks < p.t + 4 * p.next ∨ p.fin ≤ s.ticks then s
      else if p.entry.cls = 2 then s.setPlay k { p with next := p.next + 1 }
      else
        let n := granBytes p.entry.cls
        let a := 16 * p.entry.base + n * p.next
        s.guardEcc ecc cl.val 1 a (granBytes p.entry.cls / 8) (fun s =>
          if p.entry.stream then s.fetchStream cl.val k p
          else s.setPlay k { p with
            next := p.next + 1,
            env := granSamples p.entry.cls (s.bytesAt (aWave cl.val a) n) }))

/-- What the successor table gives (R271): the entry chosen, whether in a conditional position, and
whether the select was late. -/
def chooseSucc (e : Entry) (ready value : Bool) : Option (Nat × Bool) × Bool :=
  if !e.condEn then (if e.succEn then some (e.succ, false) else none, false)
  else if ready && value then (some (e.csucc, true), false)
  else (if e.succEn then some (e.succ, true) else none, !ready)

/-- A late successor select (R272). -/
def State.lateSuccessor (s : State) (c tgt q frame : Nat) : State :=
  let s1 := (s.raise (aCl c 0xC08) 1).count (aCl c 0xC18) 1
  s1.modCl c (fun x => { x with
    late := x.late.note .lateSelect q tgt frame, lateSucc := x.lateSucc ++ [frame] })

/-- SUCCESSOR_SELECT: at T + 4L − 4 the target's queue chooses the successor, whose entry is read now
(R268, R269, R271). -/
def execSuccessorSelect (cl : Fin 16) (tgt : Fin 228) (ecc : Ecc) (s : State) :
    Host.Outcome State Fault Refusal :=
  .next (
    let k := tkey cl.val tgt.val
    match s.playOn k with
    | none => s
    | some p =>
      let fin := p.t + 4 * p.entry.len
      if p.selected || decide (s.ticks + 4 < fin) then s
      else
        let ready := s.dbitReady p.entry.dbit p.entry.rc
        let r := chooseSucc p.entry ready (s.dbitSeen p.entry.dbit).value
        let s1 := s.setPlay k { p with selected := true }
        let s2 := if r.2 then s1.lateSuccessor cl.val tgt.val p.seq (s.numberAt fin) else s1
        match r.1 with
        | none => s2
        | some (idx, cond) =>
          s2.guardDir ecc idx (fun s =>
            let e := s.entry idx
            if s.entryPlays e cl.val tgt.val cond then
              s.setPlay k { p with selected := true, succ := some e }
            else s.dirInvalid cl.val))

/-- SUCCESSOR_START: the segment ends at the boundary before T + 4L, and its successor, if one is
chosen, starts there (R270). -/
def execSuccessorStart (cl : Fin 16) (tgt : Fin 228) (s : State) : Host.Outcome State Fault Refusal :=
  .next (
    let k := tkey cl.val tgt.val
    match s.playOn k with
    | none => s
    | some p =>
      if s.ticks < p.fin then s
      else match p.succ with
        | none => s.endPlay k
        | some e => (s.endPlay k).beginPlay cl.val tgt.val p.seq e p.fin p.slot p.scale p.amp)

/-- CARAFE_STOP: at the stop frame the cluster's sequencers, macro-ops, events, commits, segments and
open windows end (R280). -/
def execCarafeStop (cl : Fin 16) (s : State) : Host.Outcome State Fault Refusal :=
  .next (
    let c := cl.val
    match (s.cl c).stopAt with
    | none => s
    | some b =>
      if s.frame < b then s
      else
        let s1 := forEach (List.range 8) (fun i s => s.modSeq (8 * c + i) Seq.halted) s
        let s2 := s1.modMe c Me.emptied
        let s3 := (forEach (List.range 228) (fun t s => s.endPlay (tkey c t)) s2).abortShots c
        let s4 := { s3 with
          tqueues := s3.tqueues.filter (fun (p : Nat × TQueue) => p.1 / 256 ≠ c),
          commits := s3.commits.filter (fun p => p.host.isSome || decide (p.sequencer / 8 ≠ c)),
          trks := supd .init s3.trks c (fun t => { t with shots := [], spans := [] }) }
        let s5 := forEach (List.range 64) (fun j s =>
          s.modSlot (64 * c + j) (fun x => { x with
            wins := x.wins.filter (fun w => !w.openAt s.ticks) })) s4
        let s6 := forEach (List.range 4) (fun m s =>
          s.modMarker (4 * c + m) (fun x => { x with mark := cutSpans x.mark s.ticks, trig := cutSpans x.trig s.ticks })) s5
        (s6.modCl c (fun x => { x with stopAt := none })).raise (aCl c 0xC08) 8)

/-- The stored bytes of a job in one frame (R262): 256 of them, or the rest. -/
def State.portBytes (s : State) (c : Nat) (j : PortJob) : State :=
  let now := j.left.take 256
  match j.kind with
  | .write a => s.setBytes a now
  | .spi a => s.setBytes a now
  | .stream =>
    if j.dropped then s
    else s.modCl c (fun x => now.foldl (fun x b => x.putStream b) x)

/-- What a job does after the 256 bytes of a frame. -/
def JobKind.onward : JobKind → JobKind
  | .write a => .write (a + 256)
  | .stream => .stream
  | .spi a => .spi (a + 256)

/-- WRITE_PORT_STORE: the job at the head of the write port stores 256 bytes, and is complete with its
last byte (R107, R262, R276). -/
def execWritePortStore (cl : Fin 16) (s : State) : Host.Outcome State Fault Refusal :=
  .next (
    let c := cl.val
    match (s.cl c).port with
    | [] => s
    | j :: rest =>
      if s.frame < j.from_ ∨ j.held then s
      else
        let s1 := s.portBytes c j
        let left := j.left.drop 256
        if left.isEmpty then
          let s2 := s1.modCl c (fun x => { x with port := rest.map (fun r =>
            { r with from_ := max r.from_ (s.frame + 1) }) })
          match j.cmd with
          | some t => s2.complete t .ok []
          | none => s2
        else s1.modCl c (fun x => { x with
          port := { j with kind := j.kind.onward, left := left, begun := true } :: rest }))

/-- The settling of an output stage is over (R229, R248). -/
def State.endSettling (s : State) (cls : OutClass) (n : Nat) : State :=
  let x := s.stage cls n
  if x.settleFrom < x.settleUntil ∧ x.settleUntil ≤ s.ticks then
    s.modStage cls n (fun x => { x with settleFrom := 0, settleUntil := 0 })
  else s

/-- MODE_SETTLING_END: the mute of a MODE change ends after 1,000 frames (R229). -/
def execModeSettlingEnd (cls : OutClass) (n : Fin 512) (s : State) : Host.Outcome State Fault Refusal :=
  .next (s.endSettling cls n.val)

/-- RANGE_SETTLING_END: the mute of a RANGE change ends after frame T + 2,031 (R248). -/
def execRangeSettlingEnd (n : Fin 512) (s : State) : Host.Outcome State Fault Refusal :=
  .next (s.endSettling .flx n.val)

end Sys2Proof.Machine
end

