-- ==== Sys2Proof/Machine/Acquire.lean ====
section
/-!
DEFINITION. Acquisition events: dumps and state codes (R302 to R304), settling times (R285, R297),
over-range samples (R286), detectors (R307, R308, R383), and D-bit change records (R381).
-/
namespace Sys2Proof.Machine

/-! ## D-bit change records (R381) -/

/-- A flag of the 32 D-bits from 32 × `w`, as a word. -/
def State.dbitWord (s : State) (w : Nat) (f : DBit → Bool) : Word :=
  BitVec.ofNat 32 ((List.range 32).foldr (fun k n => 2 * n + b2n (f (s.dbit (32 * w + k)))) 0)

/-- The bytes of a D-bit change record (R380). -/
def changeBytes (g : Nat) (coalesced : Bool) (changed : Word) (first : Nat) (v va st : Word) : List Byte :=
  [1, 2] ++ leBytes 1 g ++ leBytes 1 (b2n coalesced) ++ leBytes 4 changed.toNat ++ leBytes 8 first
    ++ leBytes 4 v.toNat ++ leBytes 4 va.toNat ++ leBytes 4 st.toNat ++ leBytes 4 0

/-- Whether an EVENT record is the change record of group `g` formed in frame `f`. -/
def isChange (g f : Nat) (r : Nat × List Byte) : Bool :=
  r.1 == f && leAt r.2 0 1 == 1 && leAt r.2 2 1 == g

/-- The change record of group `g` is formed in this frame. -/
def State.formChange (s : State) (g : Nat) (coalesced : Bool) (changed : Word) (first : Nat) : State :=
  let w := sget Watch.init s.cap.watch g
  let s1 := s.emit true (changeBytes g coalesced changed first w.value w.valid w.stale)
  let w1 := { w with changed := 0, first := 0, lastRec := some s.ticks }
  { s1 with cap := { s1.cap with watch := sset Watch.init s1.cap.watch g w1 } }

/-- Group `g` is compared with what it held before (R381). A record already formed in this frame takes
up the further changes of the frame. -/
def State.watchGroup (s : State) (g : Nat) : State :=
  let cfg := s.regN (0x70000200 + 4 * g)
  let k := bitsOf cfg 7 0
  let w := sget Watch.init s.cap.watch g
  let v := s.dbitWord k (fun d => d.value)
  let va := s.dbitWord k (fun d => d.valid)
  let st := s.dbitWord k (fun d => d.stale)
  let diff := (v ^^^ w.value) ||| (va ^^^ w.valid) ||| (st ^^^ w.stale)
  let put (x : Watch) (s : State) : State :=
    { s with cap := { s.cap with watch := sset Watch.init s.cap.watch g x } }
  if diff = 0 then s
  else if !bitOf cfg 31 then put { w with value := v, valid := va, stale := st, changed := 0 } s
  else
    let w1 := { w with
      value := v, valid := va, stale := st, changed := w.changed ||| diff,
      first := if w.changed = 0 then s.frame else w.first }
    match w.lastRec with
    | none => (put w1 s).formChange g false w1.changed w1.first
    | some f =>
      if f = s.ticks then
        match s.host.event.recs.filter (isChange g f) with
        | [] => put w1 s
        | r :: _ =>
          let evs := s.host.event.recs.filter (fun x => !isChange g f x)
          let s1 := put w1 { s with host := { s.host with event := { s.host.event with recs := evs } } }
          s1.formChange g (bitOf (leAt r.2 3 1) 0) (BitVec.ofNat 32 (leAt r.2 4 4) ||| diff)
            (leAt r.2 8 8)
      else if f + 512 ≤ s.ticks then
        (put w1 s).formChange g (decide (w.changed ≠ 0)) w1.changed w1.first
      else put w1 s

/-- Every watched group is compared. -/
def State.watchAll (s : State) : State := forEach (List.range 8) (fun g s => s.watchGroup g) s

/-- DBIT_CHANGE_COALESCED: 512 frames after a group's last record, the record of the changes since is
formed (R381). -/
def execDbitChangeCoalesced (g : Fin 8) (s : State) : Host.Outcome State Fault Refusal :=
  .next (
    let w := sget Watch.init s.cap.watch g.val
    match w.lastRec with
    | some f =>
      if w.changed = 0 ∨ s.ticks < f + 512 then s else s.formChange g.val true w.changed w.first
    | none => s)

/-! ## Windows -/

/-- The over-range comparators, for the samples that reach the ball in this frame (R286): flag, count, and the tag of
every window of the input whose span has their play frame. -/
def State.watchAdc (s : State) : State :=
  let sampled := match s.mode with
    | .ready | .run | .safe => true
    | _ => false
  if !sampled then s
  else forEach (List.range 32) (fun n s =>
    let beyond := (List.range 8).any (fun k => Config.adcOver n (8 * s.moment 0 + (samplePos s.ticks k - 256)))
    if !beyond then s
    else forEach (List.range 32) (fun j s => s.modSlot (32 * n + j) (fun x => { x with wins := x.wins.map (fun w =>
        if w.tick + 32 ≤ s.ticks ∧ s.ticks < w.tick + w.len + 32 then { w with overRange := true } else w) }))
      ((s.raise (aAcq n 4) 0).count (aAcq n 8) 1)) s

/-- The first window of a slot whose I and Q are due and not dumped. -/
def State.dumpDue (s : State) (i : Nat) : Option Win :=
  firstSome (s.slot i).wins (fun w => if w.res.isNone && decide (w.dumpAt ≤ s.ticks) then some w else none)

/-- The first dumped window of a slot whose state code is due. -/
def State.codeDue (s : State) (i : Nat) : Option (Win × (Int × Int × Bool)) :=
  firstSome (s.slot i).wins (fun w => match w.res with
    | some r => if w.codeAt ≤ s.ticks then some (w, r) else none
    | none => none)

/-- INTEGRATE_DUMP: a window's I and Q are dumped in W_b + 22 + A, and 2 frames later its state code and
record are formed (R302); `ecc` is what the weights meet (R301). -/
def execIntegrateDump (slot : Fin 1024) (ecc : Ecc) (s : State) : Host.Outcome State Fault Refusal :=
  .next (
    let i := slot.val
    let s1 := match s.dumpDue i with
      | none => s
      | some w =>
        let n := min (s.winTicks i w).length w.nw
        s.guardEcc (if w.mode ∨ n = 0 then .clean else ecc) (i / 64) 6 i ((n + 1) / 2)
          (fun s => s.dumpWindow i w)
    match s1.codeDue i with
    | none => s1
    | some (w, r) => match w.trk with
      | some t => s1.finishShotWindow i w t r
      | none => s1.finishWindow i w r)

/-- STATE_CODE_WRITE: the code takes its two D-bits 4 frames after it is ready (R304), and a watched
group forms its change record (R381). -/
def execStateCodeWrite (slot : Fin 1024) (s : State) : Host.Outcome State Fault Refusal :=
  .next (
    let i := slot.val
    match (s.slot i).codes with
    | [] => s
    | w :: rest =>
      if s.ticks < w.due then s
      else
        let s1 := s.modSlot i (fun x => { x with codes := rest })
        ((s1.writeDbit (2 * i) (w.code.getLsbD 0)).writeDbit (2 * i + 1) (w.code.getLsbD 1)).watchAll)

/-! ## Settling -/

/-- ZONE_SETTLING_END: a settling time of a zone change that is over, and that no window meets, is forgotten (R285). -/
def execZoneSettlingEnd (n : Fin 32) (s : State) : Host.Outcome State Fault Refusal :=
  .next (
    let met (z : Nat) : Bool := (List.range 32).any (fun j =>
      (s.slot (32 * n.val + j)).wins.any (fun w => w.meets (z + 1) (z + 10001)))
    s.modInput n.val (fun x => { x with zones := x.zones.filter (fun z => decide (s.ticks ≤ z + 10000) || met z) }))

/-- CHAIN_RESET_END: 640 frames after a clear the chain output is meaningful again (R297); the clear is forgotten once no
window and no detector looks back on it. -/
def execChainResetEnd (slot : Fin 1024) (s : State) : Host.Outcome State Fault Refusal :=
  .next (s.modSlot slot.val (fun x => { x with clears := x.clears.filter (fun c => decide (s.ticks < c + 640 + 2 ^ 17)) }))

/-! ## Detectors -/

/-- Peak and mean square of a block of magnitudes (R307). -/
def detect (l : List Nat) : Nat × Nat := (l.foldl max 0, (l.map (fun x => x * x)).sum / max 1 l.length)

/-- |x| of the raw samples of input `n` in the play-timeline ticks from `a` to before `b` (R307); stream places stand
for ticks before the first. -/
def State.rawMags (s : State) (n a b : Nat) : List Nat :=
  (List.range (8 * (b - a))).map (fun k => (s.adcAt n (samplePos a k - 256)).natAbs)

/-- |z| of the chain outputs of slot `i` whose play frames reach the ball in the ticks from `a` to before `b` (R307). -/
def State.slotMags (s : State) (i a b : Nat) : List Nat :=
  (s.tagTicks i (a - 32) (b - 32)).map (fun t => Config.magnitude (s.chainAt i (samplePos t 0)))

/-- The stretches of READY and RUN within the ticks from `a` to before `b`, in which the detectors run (R307). -/
def State.runSpans (s : State) (a b : Nat) : List (Nat × Nat) :=
  (s.modes.ran ++ (if s.streaming then [(s.modes.since, s.ticks)] else [])).map (fun r => (max a r.1, min b r.2))

/-- Whether the device was in READY or RUN in tick `b`. -/
def State.ranIn (s : State) (b : Nat) : Bool :=
  s.streaming && decide (s.modes.since ≤ b) || s.modes.ran.any (fun r => decide (r.1 ≤ b ∧ b < r.2))

/-- The envelope detectors of input `n` run on, over the samples that reached the ball before this frame and while the
device was in READY or RUN, with TAU as it stands (R307). -/
def State.catchUp (s : State) (n : Nat) : State :=
  let x := s.input n
  let tau := s.fld (aAcq n 0x10) 19 16
  let spans := s.runSpans x.envAt s.ticks
  let run (e : Int) (f : Nat → Nat → List Nat) : Int :=
    spans.foldl (fun e r => (f r.1 r.2).foldl (fun e v => Config.envelopeStep tau e v) e) e
  s.modInput n (fun y => { y with
    env := run y.env (s.rawMags n),
    slotEnv := forEach (List.range 32) (fun j l => sset 0 l j (run (sget 0 l j) (s.slotMags (32 * n + j)))) y.slotEnv,
    envAt := s.ticks })

/-- The envelope detectors of every input run on to this frame, before settings of long ago are forgotten; the stretches
that a block may still meet stay. -/
def State.catchUpAll (s : State) : State :=
  let s1 := forEach (List.range 32) (fun n s => s.catchUp n) s
  { s1 with modes := { s1.modes with
      ran := s1.modes.ran.filter (fun r => decide (s1.ticks < r.2 + 65536)),
      slept := s1.modes.slept.filter (fun r => decide (s1.ticks < r.2 + 2 ^ 17)) } }

/-- A detector record (R308, R383). -/
def State.detRecord (s : State) (n : Nat) (coalesced : Bool) (fin : Nat) : State :=
  (s.emit true ([6, 1] ++ leBytes 1 n ++ leBytes 1 (s.fld (aAcq n 0x2C) 2 0 + 128 * b2n coalesced)
    ++ leBytes 4 0 ++ leBytes 8 fin)).modInput n (fun x => { x with lastRec := some s.ticks, owed := none })

/-- Whether a detector block of input `n` ends in this frame: its last sample has passed the ball (R307). -/
def State.blockEnds (s : State) (n : Nat) : Bool :=
  let b := s.fld (aAcq n 0x10) 15 0
  s.streaming && decide (b ≠ 0) && decide (32 < s.frame) && (s.frame - 32) % b == 0

/-- The alarm levels of input `n` from its detector values (R308). -/
def State.alarms (s : State) (n : Nat) : Nat :=
  let peak := s.fld (aAcq n 0x20) 23 0
  let ms := s.fld (aAcq n 0x24) 23 0
  let pt := s.fld (aAcq n 0x14) 11 0
  let hi := s.fld (aAcq n 0x18) 23 0
  let lo := s.fld (aAcq n 0x1C) 23 0
  b2n (pt ≠ 0 && decide (pt ≤ peak)) + 2 * b2n (hi ≠ 0 && decide (hi < ms))
    + 4 * b2n (lo ≠ 0 && decide (ms < lo))

/-- DETECTOR_BLOCK: at the end of a block the detector values and alarm levels take their new values, from the samples
of the frames that the block had in READY and RUN (R307, R308; log entry 69). -/
def execDetectorBlock (n : Fin 32) (s : State) : Host.Outcome State Fault Refusal :=
  .next (
    if !s.blockEnds n.val then s
    else
      let i := n.val
      let from_ := s.ticks - s.fld (aAcq i 0x10) 15 0
      let spans := s.runSpans from_ s.ticks
      let r := detect (spans.flatMap (fun p => s.rawMags i p.1 p.2))
      let s1 := s.catchUp i
      let s2 := ((s1.setRegN (aAcq i 0x20) (min 0xFFFFFF r.1)).setRegN (aAcq i 0x24)
        (min 0xFFFFFF r.2)).setRegN (aAcq i 0x28) ((s1.input i).env.toNat % 65536)
      let s3 := s2.pumpSample i (min 0xFFFFFF r.2)
      let s4 := forEach (List.range 32) (fun j s =>
        let d := detect (spans.flatMap (fun p => s.slotMags (32 * i + j) p.1 p.2))
        let a := aSlot (32 * i + j)
        ((s.setRegN (a 0x44) (min 0x3FFFF d.1)).setRegN (a 0x48)
          (min (2 ^ 32 - 1) (d.2 / 256))).setRegN (a 0x4C) ((sget 0 (s.input i).slotEnv j).toNat % 2 ^ 22)) s3
      let lv := s4.alarms i
      if lv = s4.fld (aAcq i 0x2C) 2 0 then s4
      else
        let s5 := (s4.setFld (aAcq i 0x2C) 2 0 lv).raise (aAcq i 4) 1
        let x := s5.input i
        let fin := s.frame - 33
        let soon := match x.lastRec with
          | some f => decide (s.ticks < f + 1024)
          | none => false
        if soon then s5.modInput i (fun x => { x with owed := some (x.owed.getD fin) })
        else match x.owed with
          | some f => s5.detRecord i true f
          | none => s5.detRecord i false fin)

/-- DETECTOR_RECORD_COALESCED: the record owed 1,024 frames after the last one (R383). -/
def execDetectorRecordCoalesced (n : Fin 32) (s : State) : Host.Outcome State Fault Refusal :=
  .next (
    let x := s.input n.val
    match x.owed, x.lastRec with
    | some fin, some f => if s.ticks < f + 1024 then s else s.detRecord n.val true fin
    | _, _ => s)

end Sys2Proof.Machine
end

