-- ==== Sys2Proof/Machine/RdspCore.lean ====
section
/-!
DEFINITION. What every RDSP instruction shares: registers and their hazards (R334), the order of issue
with delay slots and repeats (R335 to R337), address generation (R318), and interrupts (R338, R339).
-/
namespace Sys2Proof.Machine

/-! ## Registers and late writes -/

/-- A data register as a reader in its issue frame sees it (R334). -/
def Rdsp.getX (r : Rdsp) (n : Nat) : Word := sget 0 r.x n

/-- Late writes of register `n` give way to a later instruction's write of the bits in `mask`. -/
def dropLate (n : Nat) (mask : Word) (l : List Late1) : List Late1 :=
  l.map (fun w => match w with
    | .x k m v => if k = n then .x k (m &&& ~~~mask) v else w
    | _ => w)

/-- Bits of a data register take a value at once. -/
def Rdsp.putBits (r : Rdsp) (n : Nat) (mask v : Word) : Rdsp :=
  { r with
    x := sset 0 r.x n ((r.getX n &&& ~~~mask) ||| (v &&& mask)),
    delayed := dropLate n mask r.delayed }

/-- A data register takes a value at once. -/
def Rdsp.putX (r : Rdsp) (n : Nat) (v : Word) : Rdsp := r.putBits n (-1) v

/-- A write that becomes visible after the next instruction (R334). -/
def Rdsp.late (r : Rdsp) (w : Late1) : Rdsp := { r with fresh := r.fresh ++ [w] }

/-- A data register takes a value after the next instruction. -/
def Rdsp.lateX (r : Rdsp) (n : Nat) (v : Word) : Rdsp := r.late (.x n (-1) v)

/-- IE and SAT as SIO to port 0x0F writes them; they are seen one instruction later (R323, R334). -/
def srWrite (sr v : BitVec 16) : BitVec 16 := (sr &&& 0xFCFF) ||| (v &&& 0x0300)

/-- AV and LV as SIO to port 0x0F leaves them: a written 0 clears (R323); who reads flags sees it one instruction later,
as every flag (R334). -/
def Rdsp.clearFlags (r : Rdsp) (v : BitVec 16) : Rdsp := { r with sr := (r.sr &&& 0xFFE7) ||| (r.sr &&& v &&& 0x0018) }

/-- A late write takes effect. -/
def Rdsp.land (r : Rdsp) (w : Late1) : Rdsp :=
  match w with
  | .x n mask v => { r with x := sset 0 r.x n ((r.getX n &&& ~~~mask) ||| (v &&& mask)) }
  | .p n v => { r with p := sset 0 r.p n v }
  | .m n mask v => { r with m := sset 0 r.m n ((sget 0 r.m n &&& ~~~mask) ||| (v &&& mask)) }
  | .sr v => { r with sr := srWrite r.sr v }

/-- Every late write takes effect. -/
def Rdsp.landAll (r : Rdsp) : Rdsp :=
  { (r.fresh.foldl Rdsp.land (r.delayed.foldl Rdsp.land r)) with
    delayed := [], fresh := [], accOld := r.acc, srOld := r.sr }

/-- An accumulator as a MAC operation sees it (R334). -/
def Rdsp.getA (r : Rdsp) (n : Nat) : BitVec 40 := sget 0 r.acc n

/-- An accumulator as any other reader sees it: without the last instruction's write (R334). -/
def Rdsp.oldA (r : Rdsp) (n : Nat) : BitVec 40 := sget 0 r.accOld n

/-- Bits of SR take a value at once. -/
def Rdsp.srBit (r : Rdsp) (b : Nat) (v : Bool) : Rdsp :=
  { r with sr := BitVec.ofNat 16 (withBits r.sr.toNat b b (b2n v)) }

/-- Z and N follow a value (R332). -/
def Rdsp.zn (r : Rdsp) (z n : Bool) : Rdsp := (r.srBit 0 z).srBit 1 n

/-- An accumulator takes an exact value modulo 2^40; a wrap sets AV; Z and N follow (R330, R332). -/
def Rdsp.putA (r : Rdsp) (n : Nat) (v : Int) : Rdsp :=
  let w := BitVec.ofInt 40 v
  let r1 := { r with acc := sset 0 r.acc n w }
  (if w.toInt = v then r1 else r1.srBit 3 true).zn (w == 0) w.msb

/-! ## Issue -/

/-- Whether core `c` is at its base level with the vendor library there, whose instructions are not stated; the delay
slots of a handler's RETI are the handler's own words still (R335, R339, R342; log entry 18). -/
def State.inLibrary (s : State) (c : Nat) : Bool :=
  s.libraryRuns c && !(s.rd c).sr.getLsbD 10 && (s.rd c).branch.isNone

/-- The vendor libraries go on: a stretch that cannot be interrupted lasts 4 frames at most (R431), and from the frame
after START's, where SR is clear (R316), the library holds IE set (log entry 18). -/
def State.stepLibraries (s : State) : State :=
  forEach (List.range 16) (fun c s =>
    if s.inLibrary c ∧ s.mode = .run then
      s.modRd c (fun r => { r.srBit 9 (r.sr.getLsbD 9 || decide (r.nextIssue < s.frame)) with
        holds := if Config.libraryHolds c (s.moment s.ticks) ∧ r.holds < 4 then r.holds + 1 else 0 })
    else s) s

/-- Whether an interrupt is taken in this frame (R339). -/
def State.irqDue (s : State) (c : Nat) : Bool :=
  let r := s.rd c
  decide (s.mode = .run) && !s.contained c && (r.state == 1 || r.state == 3)
    && decide (r.nextIssue ≤ s.frame) && r.sr.getLsbD 9 && !r.sr.getLsbD 10 && r.branch.isNone
    && r.reps.isEmpty && !(s.inLibrary c && r.holds != 0) && (!r.queue.isEmpty || r.roundReq || r.mboxReq)

/-- Whether core `c` issues an instruction in this frame (R315, R339). -/
def State.rdReady (s : State) (c : Nat) : Bool :=
  let r := s.rd c
  decide (s.mode = .run) && !s.contained c && (r.state == 1 || r.state == 2)
    && decide (r.nextIssue ≤ s.frame) && !s.irqDue c && !s.inLibrary c

/-- The word after `w` in issue order, with the repeat whose body ends at `w` (R337). -/
def Rdsp.next (r : Rdsp) (w : BitVec 14) (skip : Nat) : Rdsp :=
  match r.reps with
  | p :: rest =>
    if p.last = w.toNat then
      if 1 < p.left then
        { r with pc := BitVec.ofNat 14 p.first, reps := { p with left := p.left - 1 } :: rest }
      else { r with pc := w + 1, reps := rest }
    else { r with pc := w + 1 + BitVec.ofNat 14 skip }
  | [] => { r with pc := w + 1 + BitVec.ofNat 14 skip }

/-- A branch counts one of its slots down, and takes effect with the last (R335). -/
def Rdsp.slotDone (r : Rdsp) : Rdsp :=
  match r.branch with
  | some (n + 2, t) => { r with branch := some (n + 1, t) }
  | some (_, t) => { r with branch := none, pc := t }
  | none => r

/-- The halt of R336 at the word at pc, with its cause. -/
def State.rdIllegal (s : State) (c err : Nat) : State :=
  let pc := (s.rd c).pc.toNat
  ((((s.setFld (aRd c 4) 19 16 err).raise (aRd c 4) 7).setRegN (aRd c 0xC) pc)).modRd c
    (fun r => { r.landAll with state := 4, branch := none })

/-- An instruction issues: its effect, then the writes of the last instruction become visible, and issue
goes on (R334, R335). `skip` is the body a REP passes over. -/
def State.rdIssueSkip (s : State) (c : Nat) (skip : Rdsp → Nat) (f : State → State) : State :=
  if !s.rdReady c then s
  else
    let r := s.rd c
    let s1 := f s
    if s1.mode ≠ .run ∨ s1.contained c ∨ (s1.rd c).state = 4 then s1
    else s1.modRd c (fun x =>
      let landed := x.delayed.foldl Rdsp.land { x with delayed := x.fresh, fresh := [] }
      let landed := { landed with
        delayed := x.fresh, accOld := r.acc, srOld := r.sr, nextIssue := s.frame + 1 }
      (landed.next r.pc (skip r)).slotDone)

/-- An instruction that is no control instruction issues. -/
def State.rdIssue (s : State) (c : Nat) (f : State → State) : State := s.rdIssueSkip c (fun _ => 0) f

/-- An instruction with an effect on the core alone issues. -/
def State.rdLocal (s : State) (c : Nat) (f : Rdsp → Rdsp) : State := s.rdIssue c (fun s => s.modRd c f)

/-- The word at pc is among the last three of an active body (R336). -/
def Rdsp.nearEnd (r : Rdsp) : Bool :=
  r.reps.any (fun p => decide (p.first ≤ r.pc.toNat ∧ p.last < r.pc.toNat + 3 ∧ r.pc.toNat ≤ p.last))

/-- A branching control instruction issues, unless R336 halts the core: in a delay slot (2) or among the
last three words of a body (3). -/
def State.rdControl (s : State) (c : Nat) (f : State → State) : State :=
  if !s.rdReady c then s
  else if (s.rd c).branch.isSome then s.rdIllegal c 2
  else if (s.rd c).nearEnd then s.rdIllegal c 3
  else s.rdIssue c f

/-- A branch to `t` with its two delay slots begins (R335). -/
def Rdsp.branchTo (r : Rdsp) (t : BitVec 14) : Rdsp := { r with branch := some (3, t) }

/-! ## Address generation (R318, R328) -/

/-- ⌊log₂ n⌋ for n up to 2^15; 0 for n = 0. -/
def log2Floor (n : Nat) : Nat := (List.range 15).foldl (fun a k => if 2 ^ (k + 1) ≤ n then k + 1 else a) 0

/-- ⌈log₂ n⌉ for n up to 2^15. -/
def log2Ceil (n : Nat) : Nat := if 2 ^ log2Floor n = n then log2Floor n else log2Floor n + 1

/-- The low `k` bits of `v` in reverse order. -/
def revBits (k v : Nat) : Nat :=
  (List.range k).foldl (fun a i => a + b2n (v.testBit i) * 2 ^ (k - 1 - i)) 0

/-- The pointer after a post-modified access (R318); an INC of 0 leaves it (R343). -/
def postModify (p : BitVec 14) (m : Word) : BitVec 14 :=
  let inc := sbitsOf m.toNat 15 0
  let len := bitsOf m.toNat 29 16
  let mode := bitsOf m.toNat 31 30
  let a : Int := p.toNat
  if inc = 0 then p
  else if mode = 1 ∧ len ≠ 0 then
    let b : Int := p.toNat / 2 ^ log2Ceil len * 2 ^ log2Ceil len
    BitVec.ofInt 14 (b + (a - b + inc) % len)
  else if mode = 2 ∧ len ≠ 0 then
    let k := log2Floor len
    let lo := p.toNat % 2 ^ k
    let v := (((revBits k lo : Int) + inc) % (2 ^ k : Int)).toNat
    BitVec.ofNat 14 (p.toNat - lo + revBits k v)
  else BitVec.ofInt 14 (a + inc)

/-- The address of an access in layout M, and the pointer write it makes (R328). -/
def Rdsp.access (r : Rdsp) (o : RdspM) : BitVec 14 × Option Late1 :=
  let p := sget 0 r.p o.pn.val
  match o.am.val with
  | 0 => (p, some (.p o.pn.val (postModify p (sget 0 r.m o.pn.val))))
  | 1 => (p + (r.getX o.ix.val).setWidth 14, none)
  | _ => (o.addr, none)

/-- The byte address of word `w` of a core's X or Y memory (R319). -/
def aXY (c : Nat) (y : Bool) (w : BitVec 14) : Nat :=
  aRd c ((if y then 0xC0000 else 0x80000) + 4 * w.toNat)

/-- An optional late write. -/
def Rdsp.lateOpt (r : Rdsp) (w : Option Late1) : Rdsp :=
  match w with
  | some w => r.late w
  | none => r

end Sys2Proof.Machine
end

