-- ==== Sys2Proof/Machine/Rdsp.lean ====
section
/-!
DEFINITION. The RDSP instructions (R327 to R333, R322 to R326), the RDSP interrupt (R338, R339) and the
hand-in of windows (R320, R321).
-/
namespace Sys2Proof.Machine

/-! ## Control -/

/-- NOP. -/
def execRdspNop (c : Fin 16) (s : State) : Host.Outcome State Fault Refusal :=
  .next (s.rdLocal c.val id)

/-- HALT stops the core until the next START (R317). -/
def execRdspHalt (c : Fin 16) (s : State) : Host.Outcome State Fault Refusal :=
  .next (s.rdLocal c.val (fun r => { r with state := 0 }))

/-- WAITI: nothing issues until an interrupt is taken; RETI resumes after it (R329). -/
def execWaiti (c : Fin 16) (s : State) : Host.Outcome State Fault Refusal :=
  .next (s.rdLocal c.val (fun r => { r with state := 3 }))

/-- EI: SR.IE ← 1. -/
def execEi (c : Fin 16) (s : State) : Host.Outcome State Fault Refusal :=
  .next (s.rdLocal c.val (fun r => r.srBit 9 true))

/-- DI: SR.IE ← 0. -/
def execDi (c : Fin 16) (s : State) : Host.Outcome State Fault Refusal :=
  .next (s.rdLocal c.val (fun r => r.srBit 9 false))

/-- The target of a branch: TARGET, or xs[13:0] when R = 1. -/
def Rdsp.target (r : Rdsp) (o : RdspB) : BitVec 14 :=
  if o.r then (r.getX o.xs.val).setWidth 14 else o.target

/-- BR: branches after two delay slots when COND holds, on the flags of one slot earlier (R333 to
R335). -/
def execBr (c : Fin 16) (o : RdspB) (s : State) : Host.Outcome State Fault Refusal :=
  .next (s.rdControl c.val (fun s => s.modRd c.val (fun r =>
    let f := r.srOld
    if rdspCond o.cond.val (f.getLsbD 0) (f.getLsbD 1) (f.getLsbD 2) then r.branchTo (r.target o)
    else r.branchTo (r.pc + 3))))

/-- CALL: pushes the address after the second delay slot and branches; with 8 entries it is illegal
(R336). -/
def execRdspCall (c : Fin 16) (o : RdspB) (s : State) : Host.Outcome State Fault Refusal :=
  .next (s.rdControl c.val (fun s =>
    if 8 ≤ (s.rd c.val).calls.length then s.rdIllegal c.val 4
    else s.modRd c.val (fun r => { r.branchTo (r.target o) with calls := (r.pc + 3) :: r.calls })))

/-- RET: pops and branches; with no entry it is illegal (R336). -/
def execRdspRet (c : Fin 16) (s : State) : Host.Outcome State Fault Refusal :=
  .next (s.rdControl c.val (fun s =>
    match (s.rd c.val).calls with
    | [] => s.rdIllegal c.val 4
    | t :: rest => s.modRd c.val (fun r => { r.branchTo t with calls := rest })))

/-- RETI: clears INH; issue goes on at the kept address after two delay slots (R339). -/
def execReti (c : Fin 16) (s : State) : Host.Outcome State Fault Refusal :=
  .next (s.rdControl c.val (fun s => s.modRd c.val (fun r =>
    { (r.srBit 10 false).branchTo r.kept with state := 1 })))

/-- The count of a REP. -/
def Rdsp.repCount (r : Rdsp) (o : RdspRep) : Nat :=
  if o.r then (r.getX o.xs.val).toNat % 65536 else o.cnt.toNat

/-- REP: the next LEN instructions run n times; a count or LEN of 0 passes over the body. In a delay
slot, beyond three levels, or reaching the enclosing body's end it is illegal (R336, R337). -/
def execRep (c : Fin 16) (o : RdspRep) (s : State) : Host.Outcome State Fault Refusal :=
  .next (
    let r := s.rd c.val
    let n := r.repCount o
    let len := o.len.toNat
    let last := (r.pc.toNat + len) % 16384
    let skip := decide (n = 0 ∨ len = 0)
    let deep := match r.reps with
      | [] => false
      | p :: _ => decide (3 ≤ r.reps.length) || decide (p.last ≤ last)
    if !s.rdReady c.val then s
    else if r.branch.isSome then s.rdIllegal c.val 2
    else if !skip && deep then s.rdIllegal c.val 3
    else s.rdIssueSkip c.val (fun _ => if skip then len else 0) (fun s => s.modRd c.val (fun r =>
      if skip then r
      else { r with reps := ⟨(r.pc.toNat + 1) % 16384, last, n⟩ :: r.reps })))

/-! ## Arithmetic on data registers (R329, R332) -/

/-- The second operand of layout R: xt, or IMM sign-extended. -/
def Rdsp.bOp (r : Rdsp) (o : RdspR) : Word := if o.i then o.imm.signExtend 32 else r.getX o.xt.val

/-- An ALU instruction: xd takes the result, and Z and N follow it. -/
def State.rdAlu (s : State) (c : Nat) (o : RdspR) (f : Word → Word → Word) : State :=
  s.rdLocal c (fun r =>
    let v := f (r.getX o.xs.val) (r.bOp o)
    (r.putX o.xd.val v).zn (v == 0) v.msb)

/-- LI. -/
def execRdspLi (c : Fin 16) (o : RdspR) (s : State) : Host.Outcome State Fault Refusal :=
  .next (s.rdLocal c.val (fun r => r.putX o.xd.val (o.imm.signExtend 32)))

/-- LUI: xd[31:16] ← IMM. -/
def execRdspLui (c : Fin 16) (o : RdspR) (s : State) : Host.Outcome State Fault Refusal :=
  .next (s.rdLocal c.val (fun r => r.putBits o.xd.val 0xFFFF0000 (o.imm ++ (0 : BitVec 16))))

/-- ADD. -/
def execRdspAdd (c : Fin 16) (o : RdspR) (s : State) : Host.Outcome State Fault Refusal :=
  .next (s.rdAlu c.val o (fun a b => a + b))

/-- SUB. -/
def execRdspSub (c : Fin 16) (o : RdspR) (s : State) : Host.Outcome State Fault Refusal :=
  .next (s.rdAlu c.val o (fun a b => a - b))

/-- AND. -/
def execRdspAnd (c : Fin 16) (o : RdspR) (s : State) : Host.Outcome State Fault Refusal :=
  .next (s.rdAlu c.val o (fun a b => a &&& b))

/-- OR. -/
def execRdspOr (c : Fin 16) (o : RdspR) (s : State) : Host.Outcome State Fault Refusal :=
  .next (s.rdAlu c.val o (fun a b => a ||| b))

/-- XOR. -/
def execRdspXor (c : Fin 16) (o : RdspR) (s : State) : Host.Outcome State Fault Refusal :=
  .next (s.rdAlu c.val o (fun a b => a ^^^ b))

/-- SHL by b[4:0]. -/
def execRdspShl (c : Fin 16) (o : RdspR) (s : State) : Host.Outcome State Fault Refusal :=
  .next (s.rdAlu c.val o (fun a b => (aluShl a b).r))

/-- SHR by b[4:0], sign-filled. -/
def execRdspShr (c : Fin 16) (o : RdspR) (s : State) : Host.Outcome State Fault Refusal :=
  .next (s.rdAlu c.val o (fun a b => (aluShr true a b).r))

/-- SHRL by b[4:0], zero-filled. -/
def execShrl (c : Fin 16) (o : RdspR) (s : State) : Host.Outcome State Fault Refusal :=
  .next (s.rdAlu c.val o (fun a b => (aluShr false a b).r))

/-- CMP: Z and N from xs − b in 33 bits (R332). -/
def execRdspCmp (c : Fin 16) (o : RdspR) (s : State) : Host.Outcome State Fault Refusal :=
  .next (s.rdLocal c.val (fun r =>
    let a := r.getX o.xs.val
    let b := r.bOp o
    r.zn (a == b) (decide (a.toInt < b.toInt))))

/-- PACK: xd[15:0] ← xs[15:0], xd[31:16] ← xt[15:0]. -/
def execPack (c : Fin 16) (o : RdspR) (s : State) : Host.Outcome State Fault Refusal :=
  .next (s.rdAlu c.val o (fun a b => b.setWidth 16 ++ a.setWidth 16))

/-- MV: xd ← xs. -/
def execMv (c : Fin 16) (o : RdspR) (s : State) : Host.Outcome State Fault Refusal :=
  .next (s.rdAlu c.val o (fun a _ => a))

/-! ## Accumulators -/

/-- CLR. -/
def execClr (c : Fin 16) (o : RdspA) (s : State) : Host.Outcome State Fault Refusal :=
  .next (s.rdLocal c.val (fun r => r.putA o.ad.val 0))

/-- MVXA: a(ad) ← x sign-extended. -/
def execMvxa (c : Fin 16) (o : RdspA) (s : State) : Host.Outcome State Fault Refusal :=
  .next (s.rdLocal c.val (fun r => r.putA o.ad.val (r.getX o.x.val).toInt))

/-- STAX: the accumulator scaled, rounded and limited goes to x or a half of it, one slot later (R331,
R334). -/
def execStax (c : Fin 16) (o : RdspA) (s : State) : Host.Outcome State Fault Refusal :=
  .next (s.rdLocal c.val (fun r =>
    let v := rneInt (r.oldA o.ad.val).toInt o.sh.val
    let half := decide (o.w.val = 1 ∨ o.w.val = 2)
    let lim := satInt (if half then 16 else 32) v
    let out := if r.sr.getLsbD 8 then lim else v
    let word := BitVec.ofInt 32 out
    let w : Late1 := match o.w.val with
      | 1 => .x o.x.val 0x0000FFFF word
      | 2 => .x o.x.val 0xFFFF0000 (word <<< 16)
      | _ => .x o.x.val (-1) word
    (if lim = v then r else r.srBit 4 true).late w))

/-- ADDA. -/
def execAdda (c : Fin 16) (o : RdspA) (s : State) : Host.Outcome State Fault Refusal :=
  .next (s.rdLocal c.val (fun r =>
    r.putA o.ad.val ((r.oldA o.ad.val).toInt + (r.oldA o.src.val).toInt)))

/-- SUBA. -/
def execSuba (c : Fin 16) (o : RdspA) (s : State) : Host.Outcome State Fault Refusal :=
  .next (s.rdLocal c.val (fun r =>
    r.putA o.ad.val ((r.oldA o.ad.val).toInt - (r.oldA o.src.val).toInt)))

/-- SRA: sign-filled shift right by SH. -/
def execSra (c : Fin 16) (o : RdspA) (s : State) : Host.Outcome State Fault Refusal :=
  .next (s.rdLocal c.val (fun r => r.putA o.ad.val (asr (r.oldA o.ad.val).toInt o.sh.val)))

/-- ABSA. -/
def execAbsa (c : Fin 16) (o : RdspA) (s : State) : Host.Outcome State Fault Refusal :=
  .next (s.rdLocal c.val (fun r => r.putA o.ad.val (r.oldA o.ad.val).toInt.natAbs))

/-- BITA: x[B] ← 1 when a(ad) ≥ 0. -/
def execBita (c : Fin 16) (o : RdspA) (s : State) : Host.Outcome State Fault Refusal :=
  .next (s.rdLocal c.val (fun r =>
    let mask : Word := BitVec.ofNat 32 (2 ^ o.b.val)
    let r1 := r.putBits o.x.val mask (if (r.oldA o.ad.val).msb then 0 else mask)
    let v := r1.getX o.x.val
    r1.zn (v == 0) v.msb))

/-! ## Memory and pointers -/

/-- LD: x takes a word of X or Y memory one slot later (R329, R334). -/
def execLd (c : Fin 16) (o : RdspM) (ecc : Ecc) (s : State) : Host.Outcome State Fault Refusal :=
  .next (s.rdIssue c.val (fun s =>
    let a := (s.rd c.val).access o
    s.guardEcc ecc c.val 5 a.1.toNat 1 (fun s =>
      let v := BitVec.ofNat 32 (s.memWord (aXY c.val o.y a.1))
      s.modRd c.val (fun r => (r.lateX o.x.val v).lateOpt a.2))))

/-- ST: a word of X or Y memory takes x. -/
def execSt (c : Fin 16) (o : RdspM) (s : State) : Host.Outcome State Fault Refusal :=
  .next (s.rdIssue c.val (fun s =>
    let r := s.rd c.val
    let a := r.access o
    (s.setMemWord (aXY c.val o.y a.1) (r.getX o.x.val).toNat).modRd c.val (fun r => r.lateOpt a.2)))

/-- LP: pn ← IMM[13:0]. -/
def execLp (c : Fin 16) (o : RdspP) (s : State) : Host.Outcome State Fault Refusal :=
  .next (s.rdLocal c.val (fun r => r.late (.p o.n.val (o.imm.setWidth 14))))

/-- LMI: mn[15:0] ← IMM. -/
def execLmi (c : Fin 16) (o : RdspP) (s : State) : Host.Outcome State Fault Refusal :=
  .next (s.rdLocal c.val (fun r => r.late (.m o.n.val 0x0000FFFF (o.imm.setWidth 32))))

/-- LML: mn[31:16] ← IMM. -/
def execLml (c : Fin 16) (o : RdspP) (s : State) : Host.Outcome State Fault Refusal :=
  .next (s.rdLocal c.val (fun r => r.late (.m o.n.val 0xFFFF0000 (o.imm ++ (0 : BitVec 16)))))

/-- MVPX: x(IMM[3:0]) ← pn; no hazard of R334 hides the last write of pn from it. -/
def execMvpx (c : Fin 16) (o : RdspP) (s : State) : Host.Outcome State Fault Refusal :=
  .next (s.rdLocal c.val (fun r =>
    let now := r.delayed.foldl Rdsp.land r
    r.lateX (o.imm.toNat % 16) ((sget 0 now.p o.n.val).setWidth 32)))

/-! ## Input, output and D-bits -/

/-- IN: the oldest hand-in goes to x12 to x15, or E says there is none (R322). -/
def execRdspIn (c : Fin 16) (s : State) : Host.Outcome State Fault Refusal :=
  .next (s.rdLocal c.val (fun r =>
    match r.queue with
    | [] => r.srBit 2 true
    | h :: rest =>
      let x14 := h.code.toNat + 256 * (h.slot % 64) + 65536 * h.tags.toNat
      (((({ r with queue := rest }.srBit 2 false).lateX 12 (BitVec.ofInt 32 h.i)).lateX 13
        (BitVec.ofInt 32 h.q)).lateX 14 (BitVec.ofNat 32 x14)).lateX 15 (BitVec.ofNat 32 h.t)))

/-- DST: one or two of the core's D-bits take values, or lose their valid flags, 10 frames later
(R325). -/
def execDst (c : Fin 16) (o : RdspD) (s : State) : Host.Outcome State Fault Refusal :=
  .next (s.rdIssue c.val (fun s =>
    let x := (s.rd c.val).getX o.x.val
    let j := o.dbit.val % 64
    let at_ (k : Nat) : Nat := 2048 + 64 * c.val + (j + k) % 64
    let clear := decide (2 ≤ o.w.val)
    let w0 : DWrite := ⟨s.frame + 10, at_ 0, x.getLsbD 0, clear⟩
    let w1 : DWrite := ⟨s.frame + 10, at_ 1, x.getLsbD 1, clear⟩
    { s with dwrites := s.dwrites ++ (if o.w.val % 2 = 1 then [w0, w1] else [w0]) }))

/-- RDD: the state of a D-bit as the sequencers see it (R324). -/
def execRdd (c : Fin 16) (o : RdspD) (s : State) : Host.Outcome State Fault Refusal :=
  .next (s.rdIssue c.val (fun s =>
    let d := s.dbitSeen o.dbit.val
    let rc := decide (2 ≤ s.frame) && s.passesRound (s.frame - 2) d
    let v := b2n d.value + 2 * b2n d.valid + 4 * b2n d.stale + 8 * b2n rc
    s.modRd c.val (fun r => r.lateX o.x.val (BitVec.ofNat 32 v))))

/-- RES: one full record from x12 to x15, with the RDSP flag and no tags (R326, R375; that it has none is DESIGN CHOICE, log
entry 69). -/
def execRes (c : Fin 16) (s : State) : Host.Outcome State Fault Refusal :=
  .next (s.rdIssue c.val (fun s =>
    let r := s.rd c.val
    let low := (r.getX 15).toNat
    let hi := s.frame / 2 ^ 32
    let tag := (if low ≤ s.frame % 2 ^ 32 then hi else hi - 1) * 2 ^ 32 + low
    let slot := 64 * c.val + bitsOf (r.getX 14).toNat 13 8
    s.fullRecord (tag % 2 ^ 48) slot ((r.getX 14).setWidth 2) true false false
      (r.getX 12).toInt (r.getX 13).toInt 0))

/-- The value of an input port (R323), and the state after the read. -/
def State.readPort (s : State) (c port : Nat) : Word × State :=
  let r := s.rd c
  match port with
  | 0x00 => (BitVec.ofNat 32 s.frame,
      s.modRd c (fun r => { r with frameHi := BitVec.ofNat 32 (s.frame / 2 ^ 32) }))
  | 0x01 => (r.frameHi, s)
  | 0x02 => (BitVec.ofNat 32 (s.roundAt s.frame),
      s.modRd c (fun r => { r with roundHi := BitVec.ofNat 32 (s.roundAt s.frame / 2 ^ 32) }))
  | 0x03 => (r.roundHi, s)
  | 0x04 => (BitVec.ofNat 32 r.queue.length, s)
  | 0x08 => (s.reg (aRd c 0x20), s.modRd c (fun r => { r with mboxReq := false }))
  | 0x0F => ((r.srOld &&& 0x001F ||| r.sr &&& 0x0700).setWidth 32, s)
  | p =>
    let v :=
      if 0x20 ≤ p ∧ p < 0x26 then s.reg (aAcq (2 * c + (p - 0x20) / 3) (0x20 + 4 * ((p - 0x20) % 3)))
      else if 0x40 ≤ p ∧ p < 0x80 then s.reg (aSlot (64 * c + (p - 0x40)) 0x44)
      else if 0x80 ≤ p ∧ p < 0xC0 then s.reg (aSlot (64 * c + (p - 0x80)) 0x48)
      else if 0xC0 ≤ p then s.reg (aSlot (64 * c + (p - 0xC0)) 0x4C)
      else 0
    (v, s)

/-- LIO: x takes a port's value one slot later (R323). -/
def execLio (c : Fin 16) (o : RdspIo) (s : State) : Host.Outcome State Fault Refusal :=
  .next (s.rdIssue c.val (fun s =>
    let p := s.readPort c.val o.port.toNat
    p.2.modRd c.val (fun r => r.lateX o.x.val p.1)))

/-- SIO: a port takes x; a port not listed takes nothing (R323). -/
def execSio (c : Fin 16) (o : RdspIo) (s : State) : Host.Outcome State Fault Refusal :=
  .next (s.rdIssue c.val (fun s =>
    let v := (s.rd c.val).getX o.x.val
    match o.port.toNat with
    | 0x09 => s.setReg (aRd c.val 0x24) v
    | 0x0F => s.modRd c.val (fun r => (r.clearFlags (v.setWidth 16)).late (.sr (v.setWidth 16)))
    | _ => s))

/-- The sum a MAC operation adds or sets (R330). -/
def macSum (mop : Nat) (s t : Word) : Int :=
  let sl := (s.setWidth 16).toInt
  let sh := ((s >>> 16).setWidth 16).toInt
  let tl := (t.setWidth 16).toInt
  let th := ((t >>> 16).setWidth 16).toInt
  match mop with
  | 0 | 1 => sl * tl + sh * th
  | 2 => -(sl * tl) - sh * th
  | 3 => sl * tl - sh * th
  | 4 => sl * th + sh * tl
  | 5 => sl * tl
  | 6 => sh * th
  | _ => 0

/-- The parallel format: a MAC operation and up to two loads with post-modify (R327, R330); `ex` and `ey` are what
the loads from X and from Y memory meet (R319). -/
def execRdspParallel (c : Fin 16) (o : RdspPar) (ex ey : Ecc) (s : State) : Host.Outcome State Fault Refusal :=
  .next (s.rdIssue c.val (fun s =>
    let r := s.rd c.val
    let sum := macSum o.mop.val (r.getX o.xs.val) (r.getX (8 + o.xt.val))
    let base : Int := if o.mop.val = 0 then 0 else (r.getA o.ad.val).toInt
    let mac (r : Rdsp) : Rdsp := if o.mop.val = 7 then r else r.putA o.ad.val (base + sum)
    let load (y : Bool) (d p : Nat) (r : Rdsp) : Rdsp :=
      let a := sget 0 r.p p
      (r.lateX d (BitVec.ofNat 32 (s.memWord (aXY c.val y a)))).late
        (.p p (postModify a (sget 0 r.m p)))
    let guard (on : Bool) (e : Ecc) (p : Nat) (k : State → State) (s : State) : State :=
      s.guardEcc (if on then e else .clean) c.val 5 (sget 0 r.p p).toNat 1 k
    guard o.lx ex o.px.val (guard o.ly ey (4 + o.py.val) (fun s => s.modRd c.val (fun r =>
      let r1 := mac r
      let r2 := if o.lx then load false o.dx.val o.px.val r1 else r1
      if o.ly then load true (8 + o.dy.val) (4 + o.py.val) r2 else r2))) s))

/-! ## Interrupts and hand-ins -/

/-- RDSP_INTERRUPT: the request of highest priority is taken; the handler's first instruction issues 3
frames later (R338 to R340). -/
def execRdspInterrupt (c : Fin 16) (s : State) : Host.Outcome State Fault Refusal :=
  .next (
    if !s.irqDue c.val then s
    else
      let r := s.rd c.val
      let enter (v : BitVec 14) (r : Rdsp) : Rdsp :=
        { (r.landAll.srBit 10 true) with
          state := 2, kept := r.pc, pc := v, nextIssue := s.frame + 3 }
      match r.queue with
      | h :: _ =>
        let wait := s.ticks - h.due
        (s.setRegN (aRd c.val 0x18) (max (s.regN (aRd c.val 0x18)) (min (2 ^ 32 - 1) wait))).modRd
          c.val (enter 4)
      | [] =>
        if r.roundReq then s.modRd c.val (fun r => { enter 8 r with roundReq := false })
        else s.modRd c.val (enter 12))

/-- HAND_IN: a window enters its core's queue 5 frames after its state code is ready, or is discarded
when the queue holds 16 (R320, R321). -/
def execHandIn (slot : Fin 1024) (s : State) : Host.Outcome State Fault Refusal :=
  .next (
    let i := slot.val
    let c := i / 64
    match (s.slot i).hands with
    | [] => s
    | h :: rest =>
      if s.ticks < h.due then s
      else
        let s1 := s.modSlot i (fun x => { x with hands := rest })
        if 16 ≤ (s1.rd c).queue.length then (s1.raise (aRd c 4) 8).count (aRd c 0x10) 1
        else s1.modRd c (fun r => { r with queue := r.queue ++ [h] }))

end Sys2Proof.Machine
end

