-- ==== Sys2Proof/Machine/BiasPump.lean ====
section
/-!
DEFINITION. Precision bias outputs (R484 to R495), their update timers and range changes, and the pump
tone (R497).
-/
namespace Sys2Proof.Machine

/-! ## The sine table (R487) -/

/-- round((2^17 − 1) × sin(2π i / 4096)) for i from 0 to 1,024. -/
def sinQuarter (i : Nat) : Int := (2 * (sinTaylor i 4096 * (2 ^ 17 - 1)) + sinScale) / (2 * sinScale)

/-- The table T of R487. -/
def sinTable (i : Nat) : Int :=
  if i < 1024 then sinQuarter i
  else if i < 2048 then sinQuarter (2048 - i)
  else if i < 3072 then -(sinQuarter (i - 2048))
  else -(sinQuarter (4096 - i))

/-- The sine term of output `b` at a tick in frame `t`; `SINE_AMP` is an amplitude, and not signed (R487). -/
def State.sineTerm (s : State) (b t : Nat) : Int :=
  let theta := (s.regN (aBias b 0x14) * t + s.regN (aBias b 0x18)) % 2 ^ 32
  rneInt ((s.fld (aBias b 0x1C) 19 0 : Int) * sinTable (theta / 2 ^ 20)) 17

/-! ## Targets and ranges -/

/-- The range that output `b` is to have: the fault record's, or the committed one (R490, R495). -/
def State.biasRange (s : State) (b : Nat) : BitVec 2 :=
  if (s.bias b).fault then recRange (s.bias b).aonFault else BitVec.ofNat 2 (s.fld (aBias b 0) 1 0)

/-- The target y of a tick in frame `t`, before the limit (R486). -/
def State.biasTarget (s : State) (b t : Nat) : Int :=
  if (s.bias b).fault then (recCode (s.bias b).aonFault).toInt
  else sbitsOf (s.regN (aBias b 4)) 19 0 + (if s.fld (aBias b 0) 5 5 = 1 then s.sineTerm b t else 0)

/-- A commit of BIAS_OUT takes effect: outside SAFE it returns the output to the committed fields (R490,
R495). -/
def State.biasCommitted (s : State) (b : Nat) : State :=
  let s1 := if s.mode = .safe then s else s.modBias b (fun x => { x with fault := false })
  s1.modBias b (fun x => x.retarget (s1.biasRange b) s.ticks)

/-- Whether a range change of output `b` is in progress (R490). -/
def State.rangeSeq (s : State) (b : Nat) : Bool :=
  (s.bias b).stage ≠ 0 || s.biasRange b ≠ (s.bias b).range

/-- Whether output `b` is on its way to 0 in its old range (R490). -/
def State.rangeLeaves (s : State) (b : Nat) : Bool :=
  (s.bias b).stage = 1 || s.biasRange b ≠ (s.bias b).range

/-! ## Ticks -/

/-- Whether the timer of output `b` ticks in this frame (R485, R494). -/
def State.biasTicks (s : State) (b : Nat) : Bool :=
  let p := s.fld (aBias b 8) 23 0
  let ph := s.fld (aBias b 0xC) 23 0
  (match s.mode with
    | .reset | .boot => false
    | _ => true) && decide (p ≠ 0) && (s.frame + p - ph) % p == 0

/-- One tick's move of the live code toward `y` under the rules of the live range (R488, R489). -/
def moveBias (x : Bias) (slewEn : Bool) (step : Nat) (y : BitVec 20) : Bias :=
  let d := y.toInt - x.live.toInt
  if x.range = 2 || !slewEn || decide (d.natAbs ≤ step) then { x with live := y }
  else { x with live := BitVec.ofInt 20 (x.live.toInt + (if 0 < d then (step : Int) else -step)) }

/-- The frames from a tick that makes the code `y` to its current at the ball: 232 for a major transition, which the
deglitcher holds (R485, R489). -/
def Bias.latency (x : Bias) (y : BitVec 20) : Nat :=
  if x.range = 2 ∧ bitsOf (x.live ^^^ y).toNat 19 14 ≠ 0 then 232 else 32

/-- BIAS_TICK: the live code moves toward its target (R485 to R490). -/
def execBiasTick (b : Fin 64) (s : State) : Host.Outcome State Fault Refusal :=
  .next (
    let i := b.val
    let x : Bias := { s.bias i with ticked := some s.ticks }
    if !s.biasTicks i ∨ (s.bias i).ticked = some s.ticks then s
    else if x.stage = 2 ∧ s.ticks < x.holdFrom + 50000 then s
    else
      let slew := decide (s.fld (aBias i 0) 4 4 = 1)
      let step := s.fld (aBias i 0x10) 19 0
      let x0 := { x with stage := 0 }
      if s.rangeLeaves i then
        let x1 := moveBias x0 slew step 0
        let x2 := if x1.live = 0 then
            { x1 with range := s.biasRange i, stage := 2, holdFrom := s.ticks }
          else { x1 with stage := 1 }
        (s.modBias i (fun _ => x2.present s.ticks (x0.latency x1.live))).setFld (aBias i 0x20) 0 0 (b2n (x2.live ≠ 0))
      else
        let t := s.biasTarget i s.frame
        let y := BitVec.ofInt 20 (satInt 20 t)
        let x1 := moveBias x0 slew step y
        let s1 := (s.modBias i (fun _ => x1.present s.ticks (x0.latency x1.live))).setFld (aBias i 0x20) 0 0 (b2n (x1.live ≠ y))
        if satInt 20 t = t then s1 else s1.raise (aBias i 0x20) 3)

/-- RANGE_HOLD_END: 50,000 frames after the range switched, the hold at 0 is over; the next tick moves the
output (R490). -/
def execRangeHoldEnd (b : Fin 64) (s : State) : Host.Outcome State Fault Refusal :=
  .next (
    let x := s.bias b.val
    if x.stage = 2 ∧ x.holdFrom + 50000 ≤ s.ticks then s.modBias b.val (fun x => { x with stage := 3 })
    else s)

/-- BIAS_PWRUP_LOAD: each output drives its power-up record, or code 0 in range 0 with `NV_BAD` and a
recorder entry where a record fails its check: bit b of `bad` for the power-up record, bit 64 + b for the
fault record (R493). -/
def execBiasPwrupLoad (bad : BitVec 128) (s : State) : Host.Outcome State Fault Refusal :=
  .next (
    if !s.power.aon then s
    else forEach (List.range 64) (fun b s =>
      if (s.bias b).driven then s
      else
        let bad1 := bad.getLsbD b
        let bad2 := bad.getLsbD (64 + b)
        let note (kind : Nat) (s : State) : State :=
          (s.raise (aBias b 0x20) 4).record 0x13 (leBytes 1 b ++ leBytes 1 kind)
        let s1 := s.modBias b (fun x =>
          let r : BitVec 22 := if bad1 then 0 else x.nvPwrup
          { x with
            driven := true, live := recCode r, range := recRange r, ball := r, coming := [], stage := 0,
            aonFault := if bad2 then 0 else x.nvFault })
        let s2 := if bad1 then note 0 s1 else s1
        if bad2 then note 1 s2 else s2) s)

/-! ## Pumps -/

/-- The 16 DAC codes of pump `p` for the play frame `k` frames ago, with the settings of that frame (R497). -/
def State.pumpCodes (s : State) (p k : Nat) : List Int :=
  let f := s.numberAt (s.ticks - k)
  let w := (s.wordAgo (aPump p 0xC) k ++ s.wordAgo (aPump p 8) k).setWidth 48
  let phi := s.wordAgo (aPump p 0x10) k
  let level : Int := bitsOf (s.wordAgo (aPump p 0x18) k).toNat 15 0
  (List.range 16).map (fun i =>
    max (-8191) (min 8191 (rneInt (level * cosTurn (slotPhase w phi (16 * f + i))) 83)))

end Sys2Proof.Machine
end

