-- ==== Sys2Proof/Machine/Groups.lean ====
section
/-!
DEFINITION. Coherence groups: what a commit of a group changes in its effective frame (R121, R222, R245,
R248, R294, R297, R352, R362, R442, R443, R495, R499), and the order of commits (R38, R195).
-/
namespace Sys2Proof.Machine

/-- The shadow of a word. -/
def State.shadowWord (s : State) (a : Nat) : Word := sget (resetWord a) s.shadow a

/-- The words of the member that a word belongs to: a 48-bit member has two (R222). -/
def memberWords (a : Nat) : List Nat :=
  match locate a with
  | some l => match l.row.pair with
    | .low => [a, a + 4]
    | .high => [a - 4, a]
    | .none => [a]
  | none => [a]

/-- Whether the shadow of a word's member was written since the last commit (R121). -/
def State.written (s : State) (a : Nat) : Bool := (memberWords a).any (fun b => s.dirty.contains b)

/-- The words of group `g` that its next commit changes. -/
def State.takenWords (s : State) (g : Nat) : List Nat := (groupWords g).filter (fun a => s.written a)

/-- Words take their shadow values, and their shadows count as committed. -/
def State.takeShadow (s : State) (l : List Nat) : State :=
  let s1 := forEach l (fun a s => s.setReg a (s.shadowWord a)) s
  { s1 with dirty := s1.dirty.filter (fun a => !l.contains a) }

/-- A commit of a slot's frequency and phase (R222): the taken words reach the live values. -/
def State.commitSlot (s : State) (taken : List Nat) (b : Nat) : State :=
  let s1 := if taken.contains b then
      ((((s.setReg (b + 0x10) (s.reg b)).setReg (b + 0x14) (s.reg (b + 4))).setBaseline b (s.reg b)).setBaseline
        (b + 4) (s.reg (b + 4)))
    else s
  if taken.contains (b + 8) then s1.setReg (b + 0x18) (s1.reg (b + 8)) else s1

/-- A commit of FLX_OUT of output `n` that changes RANGE mutes the output and keeps the range before the mute until it
ends (R248). -/
def State.commitFlux (s : State) (n : Nat) (oldCfg : Word) : State :=
  if bitOf oldCfg.toNat 8 == bitOf (s.regN (aFlx n 4)) 8 then s
  else s.modStage .flx n (fun x =>
    let on := decide (s.ticks < x.settleUntil)
    { settleFrom := if on then x.settleFrom else s.ticks, settleUntil := s.ticks + 2032,
      range := if on then x.range else bitOf oldCfg.toNat 8 })

/-- Group `g` is committed in this frame. -/
def State.commitGroup (s : State) (g : Nat) : State :=
  let i := g % 2 ^ 24
  let t := s.takenWords g
  let s1 := s.takeShadow t
  match g / 2 ^ 24 with
  | 0x01 => s1.commitSlot t (aDrv (i / 128) (0x1000 + 0x20 * (i % 128)))
  | 0x06 => forEach (List.range 32) (fun j s =>
      s.commitSlot t (aPrb (i / 32) (0x8000 + 0x20 * (32 * (i % 32) + j)))) s1
  | 0x04 =>
    let s2 := s1.commitFlux i (s.reg (aFlx i 4))
    if t.contains (aFlx i 8) then s2.setBaseline (aFlx i 8) (s2.reg (aFlx i 8)) else s2
  | 0x09 =>
    let chain (s : State) : Nat := Nat.land (s.regN (aSlot i 0xC)) 0x3F13
    if chain s1 ≠ chain s then s1.clearChain i else s1
  | 0x0A => forEach [0x24, 0x2C, 0x34] (fun o s =>
      if t.contains (aSlot i o) then s.setBaseline (aSlot i o) (s.reg (aSlot i o)) else s) s1
  | 0x0E => s1.biasCommitted i
  | 0x0F =>
    if t.contains (aPump i 4) then
      (s1.setReg (aPump i 0x18) (s1.reg (aPump i 4))).setBaseline (aPump i 4) (s1.reg (aPump i 4))
    else s1
  | _ => s1

/-- A pending commit takes effect: its groups are committed, and a COMMIT completes with its effective
frame (R107, R121 to R123). -/
def State.applyCommit (s : State) (p : PendingCommit) : State :=
  let s1 := forEach p.groups (fun g s => s.commitGroup g.toNat) s
  match p.host with
  | some t => s1.complete t .ok (leBytes 8 s.frame)
  | none => s1

/-- The commits due in this frame take effect: those of CMT by sequencer, then those of the host in their
order of acceptance (R38, R195). -/
def State.applyCommits (s : State) : State :=
  let due := s.commits.filter (fun p => decide (p.frame ≤ s.frame))
  let cmts := sortBy PendingCommit.sequencer (due.filter (fun p => p.host.isNone))
  let hosts := sortBy PendingCommit.order (due.filter (fun p => p.host.isSome))
  let s1 := { s with commits := s.commits.filter (fun p => decide (s.frame < p.frame)) }
  forEach (cmts ++ hosts) (fun p s => s.applyCommit p) s1

/-- GROUP_COMMIT: the groups whose effective frame has come are committed (R121, R195). -/
def execGroupCommit (s : State) : Host.Outcome State Fault Refusal := .next s.applyCommits

end Sys2Proof.Machine
end

