-- ==== Sys2Proof/Machine/PercGraph.lean ====
section
/-!
DEFINITION. The syndrome engine (R356 to R359), the decoding graph (R360, R361) and the local matcher
(R363 to R367).
-/
namespace Sys2Proof.Machine

/-! ## Tables -/

/-- A byte address of graph bank `b` (R373). -/
def bankAt (b o : Nat) : Nat := 0x60100000 + 0x100000 * b + o

/-- The live graph bank (R362). -/
def State.liveBank (s : State) : Nat := bitsOf s.perc.syn.toNat 3 3

/-- The check-table word of check `k` in the live bank (R360). -/
def State.checkWord (s : State) (k : Nat) : Nat := s.memWord (bankAt s.liveBank (4 * k))

/-- A valid node: its history entry 4 × check + age, and its run of edges (R360). -/
structure GNode where
  key : Nat
  base : Nat
  cnt : Nat
  deriving DecidableEq, Repr

/-- An edge in a node's run: the node at its other end, or none for the boundary; weight and mask. -/
structure GEdge where
  other : Option Nat
  w : Nat
  mask : Nat
  deriving DecidableEq, Repr

/-- The valid nodes of the live bank in rising order, and whether two name one check and age (R361). -/
def State.graphNodes (s : State) : List (Nat × GNode) × Bool :=
  let r := (List.range 4096).foldl (fun (acc : List (Nat × GNode) × Nat × Bool) n =>
    let w0 := s.memWord (bankAt s.liveBank (0x10000 + 8 * n))
    let key := 4 * bitsOf w0 9 0 + bitsOf w0 13 12
    if !bitOf w0 15 then acc
    else if bitOf acc.2.1 key then (acc.1, acc.2.1, true)
    else
      let w1 := s.memWord (bankAt s.liveBank (0x10004 + 8 * n))
      ((n, ⟨key, bitsOf w1 14 0, bitsOf w1 21 16⟩) :: acc.1, acc.2.1 + 2 ^ key, acc.2.2)) ([], 0, false)
  (r.1.reverse, r.2.2)

/-- A node of a list of valid nodes. -/
def nodeOf (l : List (Nat × GNode)) (n : Nat) : Option GNode :=
  firstSome l (fun p => if p.1 = n then some p.2 else none)

/-- The edges of node `u`'s run that join it, and whether the run has an entry that is ignored (R360,
R361). -/
def State.runOf (s : State) (u : Nat) (x : GNode) : List GEdge × Bool :=
  let r := (List.range x.cnt).foldl (fun (acc : List GEdge × Bool) i =>
    let e := x.base + i
    let w0 := s.memWord (bankAt s.liveBank (0x20000 + 8 * e))
    let w1 := s.memWord (bankAt s.liveBank (0x20004 + 8 * e))
    let a := bitsOf w0 11 0
    let b := bitsOf w0 23 12
    let edge (o : Option Nat) : GEdge := ⟨o, bitsOf w0 31 24, bitsOf w1 13 0⟩
    if 32768 ≤ e then (acc.1, true)
    else if bitOf w1 15 then (if a = u then (edge none :: acc.1, acc.2) else (acc.1, true))
    else if a = u ∧ b ≠ u then (edge (some b) :: acc.1, acc.2)
    else if b = u ∧ a ≠ u then (edge (some a) :: acc.1, acc.2)
    else (acc.1, true)) ([], false)
  (r.1.reverse, r.2)

/-- The valid nodes joined to node `u` by an edge in its run. -/
def State.joined (s : State) (l : List (Nat × GNode)) (u : Nat) : List Nat :=
  match nodeOf l u with
  | none => []
  | some x => ((s.runOf u x).1.filterMap GEdge.other).filter (fun v => (nodeOf l v).isSome)

/-- The valid nodes within distance 2 of node `u`, `u` among them (R364). -/
def State.near (s : State) (l : List (Nat × GNode)) (u : Nat) : List Nat :=
  let one := s.joined l u
  u :: (one ++ one.flatMap (fun v => s.joined l v))

/-- Whether the runs that the distance tests of node `u` read have an ignored entry (R361). -/
def State.runsBad (s : State) (l : List (Nat × GNode)) (u : Nat) : Bool :=
  (u :: s.joined l u).any (fun v => match nodeOf l v with
    | some x => (s.runOf v x).2
    | none => false)

/-! ## History (R363) -/

/-- The state of history entry `key`. -/
def State.node (s : State) (key : Nat) : NodeState := sget .none s.perc.hist key

/-- History entry `key` takes a state. -/
def State.setNode (s : State) (key : Nat) (v : NodeState) : State :=
  { s with perc := { s.perc with hist := sset .none s.perc.hist key v } }

/-- The window shifts by one round (R363). -/
def shiftHist (l : Sparse NodeState) : Sparse NodeState :=
  (l.filter (fun p => decide (p.1 % 4 ≠ 3))).map (fun p => (p.1 + 1, p.2))

/-- Whether an entry blocks (R363). -/
def NodeState.blocks : NodeState → Bool
  | .pending | .forwarded | .erased => true
  | .none | .matched => false

/-! ## Step 1: closing the checks (R358, R359) -/

/-- Whether the slot of a state-code D-bit has an ACQUIRE released in this frame, which clears the bit
(R159, R347). -/
def State.clearedNow (s : State) (d : Nat) : Bool :=
  decide (d < 2048) && s.acquireBy (d / 2) s.frame

/-- Whether D-bit `d` makes its check present at the boundary of round `r` (R358). -/
def State.present (s : State) (d r : Nat) : Bool :=
  let b := s.dbit d
  b.valid && !b.stale && b.inRound && !s.clearedNow d
    && ((decide (0 < r) && b.tag == BitVec.ofNat 32 (r - 1))
      || (b.tag == BitVec.ofNat 32 r && s.dlog.any (fun c => c.idx = d && c.tick = s.ticks)))

/-- Check `k` is closed at the boundary of round `r`: its detection event is on its way to D(6144 + k)
(R358, R359). -/
def State.closeCheck (s : State) (r k : Nat) : State :=
  let w := s.checkWord k
  let d := bitsOf w 12 0
  if !bitOf w 15 then s
  else
    let here := s.present d r
    let v := (s.dbit d).value != bitOf w 13
    let e := here && (match sget none s.perc.prev k with
      | some p => v != p
      | none => !bitOf w 14 && v)
    let s1 := s.setNode (4 * k) (if here then (if e then .pending else .none) else .erased)
    let s2 := { s1 with dwrites := s1.dwrites ++ [(⟨s.frame + 4, 6144 + k, e, false⟩ : DWrite)] }
    if here then { s2 with perc := { s2.perc with prev := sset none s2.perc.prev k (some v) } }
    else (s2.raise 0x60000008 1).count 0x60000018 1

/-- The checks erased at this boundary, in rising order. -/
def State.erasedChecks (s : State) : List Nat :=
  (List.range 1024).filter (fun k => bitOf (s.checkWord k) 15 && s.node (4 * k) == .erased)

/-- Step 1 of R38: the window shifts and every enabled check is closed. -/
def State.closeChecks (s : State) (r : Nat) : State :=
  let s1 := { s with perc := { s.perc with hist := shiftHist s.perc.hist } }
  forEach (List.range 1024) (fun k s => s.closeCheck r k) s1

/-! ## Step 2: matching (R364 to R366) -/

/-- Whether valid node `n` is a defect (R361, R363). -/
def State.defect (s : State) (l : List (Nat × GNode)) (n : Nat) : Bool :=
  match nodeOf l n with
  | some x => s.node x.key == .pending && bitOf (s.checkWord (x.key / 4)) 15
  | none => false

/-- Whether valid node `n` blocks. -/
def State.blocking (s : State) (l : List (Nat × GNode)) (n : Nat) : Bool :=
  match nodeOf l n with
  | some x => (s.node x.key).blocks
  | none => false

/-- Whether no node but those of `own` blocks within distance 2 of them (R364). -/
def State.isolated (s : State) (l : List (Nat × GNode)) (own : List Nat) : Bool :=
  !((own.flatMap (fun u => s.near l u)).any (fun n => !own.contains n && s.blocking l n))

/-- The match of defect `u`, by the tests of R365 in order: the nodes matched and the mask. -/
def State.matchOf (s : State) (l : List (Nat × GNode)) (u : Nat) : Option (List Nat × Nat) :=
  match nodeOf l u with
  | none => none
  | some x =>
    let syn := s.perc.syn.toNat
    let run := (s.runOf u x).1
    let pair := firstSome run (fun e => match e.other with
      | some v =>
        if s.defect l v ∧ e.w ≤ bitsOf syn 23 16 ∧ s.isolated l [u, v] then some ([u, v], e.mask) else none
      | none => none)
    match pair with
    | some m => some m
    | none =>
      if !bitOf syn 2 || !s.isolated l [u] then none
      else firstSome run (fun e => match e.other with
        | none => if e.w ≤ bitsOf syn 31 24 then some ([u], e.mask) else none
        | some _ => none)

/-- Whether the runs read for defect `u` have an ignored entry (R361). -/
def State.matchBad (s : State) (l : List (Nat × GNode)) (u : Nat) : Bool :=
  s.runsBad l u || ((s.joined l u).filter (fun v => s.defect l v)).any (fun v => s.runsBad l v)

/-- A mask is applied to the Pauli frame (R360). -/
def State.applyMask (s : State) (m : Nat) : State :=
  let w := s.memWord (bankAt s.liveBank (0x60000 + 4 * m))
  (s.togglePauli (bitsOf w 9 0) (bitOf w 10) (bitOf w 11)).togglePauli (bitsOf w 21 12) (bitOf w 22)
    (bitOf w 23)

/-- Valid nodes take a history state. -/
def State.setNodes (s : State) (l : List (Nat × GNode)) (ns : List Nat) (v : NodeState) : State :=
  forEach ns (fun n s => match nodeOf l n with
    | some x => s.setNode x.key v
    | none => s) s

/-- A due defect is matched or forwarded (R365, R366). The second and third parts are the forwarded
defects so far, newest first, and the number of matches. -/
def resolveDue (l : List (Nat × GNode)) (u : Nat) (acc : State × List Nat × Nat) : State × List Nat × Nat :=
  let (s, fwd, n) := acc
  let on := bitOf s.perc.syn.toNat 1
  if !s.defect l u then acc
  else if on ∧ n < 256 then
    let s1 := if s.matchBad l u then s.raise 0x60000008 4 else s
    match s1.matchOf l u with
    | some (ns, m) => (((s1.setNodes l ns .matched).applyMask m).count 0x6000001C 1, fwd, n + 1)
    | none => (s1.setNodes l [u] .forwarded, u :: fwd, n)
  else ((if on then s.raise 0x60000008 3 else s).setNodes l [u] .forwarded, u :: fwd, n)

/-- Step 2 of R38: the due defects are resolved; the forwarded ones in rising order. -/
def State.matchRound (s : State) : State × List Nat :=
  let g := s.graphNodes
  let s1 := if g.2 then s.raise 0x60000008 4 else s
  let due := (g.1.filter (fun p => p.2.key % 4 = bitsOf s.perc.syn.toNat 5 4)).map (·.1)
  let r := due.foldl (fun acc u => resolveDue g.1 u acc) (s1, [], 0)
  (r.1.count 0x60000020 r.2.1.length, r.2.1.reverse)

/-! ## The residual report (R367, R382) -/

/-- The residual report of the boundary of round `r`. -/
def State.residual (s : State) (r : Nat) (fwd erased : List Nat) : State :=
  if fwd.isEmpty ∧ erased.isEmpty then s
  else
    let cap := 4 * min 16 (s.roundLen / 100)
    let all := fwd ++ erased.map (fun k => 2 ^ 31 + k)
    let es := all.take cap
    let units := (es.length + 3) / 4
    let pad := List.replicate (4 * units - es.length) (2 ^ 32 - 1)
    let due : Int := (r : Int) - 1 - bitsOf s.perc.syn.toNat 5 4
    s.emit true ([2] ++ leBytes 1 (1 + units) ++ leBytes 1 (b2n (decide (cap < all.length))) ++ [0]
      ++ leBytes 2 (min 65535 fwd.length) ++ leBytes 2 (min 65535 erased.length)
      ++ leSigned 4 due ++ leBytes 4 (r + s.fld 0x60000004 7 0)
      ++ (es ++ pad).flatMap (fun e => leBytes 4 e))

end Sys2Proof.Machine
end

