-- ==== Sys2Proof/Machine/Perc.lean ====
section
/-!
DEFINITION. The work of a round boundary (R38, R39): Pauli updates (R368 to R371), tracker commits (R441
to R445) and commits, and the logic cells (R349 to R352).
-/
namespace Sys2Proof.Machine

/-! ## Held Pauli updates (R368 to R370) -/

/-- Entries held for future boundaries (R369). -/
def State.pauliHeld (s : State) : Nat :=
  (s.perc.held.map (fun (h : PauliHold) => h.entries.length)).sum

/-- The due round of a PAULI_UPDATE payload, and its entries (R95). -/
def pauliPayload (p : List Byte) : Nat × List Word :=
  (leAt p 0 8, (pieces 4 (p.drop 8) p.length).map (fun e => BitVec.ofNat 32 (leNat e)))

/-- An update is held, and its command is complete (R107); it is late when its round has begun (R370). -/
def State.holdPauli (s : State) (t : Taken) : State :=
  let p := pauliPayload t.cmd.payload
  let late := s.inRoundAt s.frame && decide (p.1 ≤ s.roundAt s.frame)
  let h : PauliHold := ⟨p.1, p.2, s.frame, late⟩
  ({ s with perc := { s.perc with held := s.perc.held ++ [h] } }).complete t .ok []

/-- Whether all entries of an update find room (R369). -/
def State.pauliFits (s : State) (t : Taken) : Bool :=
  decide (s.pauliHeld + (pauliPayload t.cmd.payload).2.length ≤ 16384)

/-- Updates that waited for room are held when they find it, oldest first (R369). -/
def State.retryPauli (s : State) : State :=
  let all := (List.range 64).flatMap (fun q => (s.hq q).active.filter (fun t => t.op = 0x0A))
  forEach (sortBy Taken.order all) (fun t s => if s.pauliFits t then s.holdPauli t else s) s

/-- Step 3 of R38 at the boundary of round `r`: updates due, and late ones held in an earlier frame, are
applied (R370). -/
def State.applyPaulis (s : State) (r : Nat) : State :=
  let now (h : PauliHold) : Bool := if h.late then decide (h.heldAt ≠ s.frame) else decide (h.due ≤ r)
  let due := s.perc.held.filter now
  let late := due.filter PauliHold.late
  let n := (late.map (fun (h : PauliHold) => h.entries.length)).sum
  let s1 := { s with perc := { s.perc with held := s.perc.held.filter (fun h => !now h) } }
  let s2 := forEach due (fun h s =>
    forEach h.entries (fun e s => s.togglePauli (e.toNat % 1024) (e.getLsbD 16) (e.getLsbD 17)) s) s1
  match late with
  | [] => s2
  | h :: t =>
    let first := t.foldl (fun a (x : PauliHold) => min a x.due) h.due
    ((s2.raise 0x60000008 0).count 0x60000010 n).emit true
      ([3, 1] ++ leBytes 2 (min 65535 n) ++ leBytes 4 0 ++ leBytes 4 r ++ leBytes 4 first)

/-! ## Tracker commits (R441 to R445) -/

/-- The live value of a tracked field at `a` (R442): 0 FREQ, 1 DISC, 2 FLUX, 3 PUMP. -/
def State.trackLive (s : State) (trk a : Nat) : Int :=
  match trk with
  | 0 => s.reg64 (a + 0x10)
  | 2 => sbitsOf (s.regN a) 15 0
  | 3 => s.fld (a + 0x14) 15 0
  | _ => (s.reg a).toInt

/-- The baseline of a tracked field (R443). -/
def State.trackBase (s : State) (trk a : Nat) : Int :=
  match trk with
  | 0 => (s.baseline a).toNat + 2 ^ 32 * (s.baseline (a + 4)).toNat
  | 2 => sbitsOf (s.baseline a).toNat 15 0
  | 3 => (s.baseline a).toNat
  | _ => (s.baseline a).toInt

/-- The live value of a tracked field changes as a commit of its group would change it (R442). -/
def State.setTracked (s : State) (trk a : Nat) (v : Int) : State :=
  match trk with
  | 0 => s.setReg64 (a + 0x10) (v % 2 ^ 48).toNat
  | 2 => s.setRegN a (v % 2 ^ 16).toNat
  | 3 => s.setRegN (a + 0x14) v.toNat
  | _ => s.setReg a (BitVec.ofInt 32 v)

/-- Whether a commit due in this frame writes the word at `a` (R39). -/
def State.committedNow (s : State) (a : Nat) : Bool :=
  s.commits.any (fun p => decide (p.frame ≤ s.frame)
    && p.groups.any (fun g => (s.takenWords g.toNat).contains a))

/-- Whether a SETF released in this frame writes the frequency of the drive slot at `a` (R445). -/
def State.setfNow (s : State) (a : Nat) : Bool :=
  let n := (a - 0x20000000) / 0x10000
  let i := (a % 0x10000 - 0x1000) / 0x20
  (s.tq (tkey (n / 16) (4 * (n % 16) + i / 32))).held.any (fun e =>
    decide (e.t ≤ s.frame) && !e.tentative && (match e.kind with
      | .setf fs _ => fs == i % 32
      | _ => false))

/-- Why an update is not applied at this boundary: STEP or DRIFT for a member it changes, or OVERWRITTEN (R444 to R446);
`s` is the state before step 4 of R38. -/
def State.trackRefusal (s : State) (u : TrkUpdate) : Option Nat :=
  let unit : Nat := if u.trk = 0 then 256 else 1
  let within (o : Nat) (d : Int) : Bool := decide (d.natAbs ≤ unit * s.regN (0x200 + 8 * u.trk + o))
  let changed := u.values.filter (fun x => x.2 ≠ s.trackLive u.trk x.1)
  if !changed.all (fun x => within 0 (x.2 - s.trackLive u.trk x.1)) then some 0
  else if !changed.all (fun x => within 4 (x.2 - s.trackBase u.trk x.1)) then some 1
  else if u.values.any (fun x => s.committedNow x.1 || (u.trk == 0 && s.setfNow x.1)) then some 2
  else none

/-- One ready update of cluster `c` is applied at the boundary of round `r`, or reported (R444, R445); `s0` is the
state before step 4 of R38. -/
def State.trackerCommit (s0 : State) (r c : Nat) (u : TrkUpdate) (s : State) : State :=
  match s0.trackRefusal u with
  | some reason =>
    ((((s.raise (aCl c 0x2004) 0).count (aCl c 0x2014) 1).setRegN (aCl c 0x2018)
      (reason * 2 ^ 24 + u.trk * 2 ^ 16 + u.item)).setRegN (aCl c 0x201C) r)
  | none =>
    (forEach u.values (fun x s => s.setTracked u.trk x.1 x.2) s).count (aCl c 0x2010) 1

/-- Step 4 of R38: the updates ready before this boundary are taken (R441). -/
def State.trackerCommits (s0 : State) (r : Nat) : State :=
  forEach (List.range 16) (fun c s =>
    let now := (s.trk c).ready.filter (fun u => decide (u.ready < s.frame))
    let s1 := s.modTrk c (fun t => { t with ready := t.ready.filter (fun u => decide (s.frame ≤ u.ready)) })
    forEach (sortBy (fun (u : TrkUpdate) => 64 * u.trk + u.item) now) (fun u s => s0.trackerCommit r c u s) s1) s0

/-! ## The boundary -/

/-- Each core's round-start request is raised (R338). -/
def State.roundStart (s : State) : State :=
  forEach (List.range 16) (fun c s =>
    let s1 := if (s.rd c).roundReq then s.count (aRd c 0x14) 1 else s
    s1.modRd c (fun x => { x with roundReq := true })) s

/-- The committed PERC_GRAPH word comes into force (R362). -/
def State.adoptGraph (s : State) : State :=
  let w := s.reg 0x60000000
  ({ s with perc := { s.perc with syn := w, last := some s.frame } }).setFld 0x60000008 8 8
    (bitsOf w.toNat 3 3)

/-- Whether the syndrome engine works (R59, R357). -/
def State.engineRuns (s : State) : Bool := decide (s.mode = .run) && bitOf s.perc.syn.toNat 0

/-- Steps 1 and 2 of R38 at the boundary of round `r`, with the residual report (R357 to R367). -/
def State.closeRound (s : State) (r : Nat) : State :=
  if s.engineRuns then
    let s1 := s.closeChecks r
    let m := s1.matchRound
    m.1.residual r m.2 s1.erasedChecks
  else s

/-- ROUND_BOUNDARY: the work of a boundary frame, once, in the order of R38; `ecc` is what the engine meets in the bank
it reads (R127, R362). -/
def execRoundBoundary (ecc : Ecc) (s : State) : Host.Outcome State Fault Refusal :=
  .next (
    if !s.isBoundary s.frame ∨ s.perc.last = some s.frame then s
    else
      let r := s.roundAt s.frame
      let s1 := s.adoptGraph
      if ecc = .uncorrectable ∧ s1.engineRuns then s1.eccFault none 8 (0x60100000 + 0x100000 * bitsOf s1.perc.syn.toNat 3 3)
      else ((((s1.closeRound r).applyPaulis r).retryPauli.trackerCommits r).applyCommits).roundStart)

/-! ## Logic cells -/

/-- Input `k` of cell `i`: its D-bit and whether it is inverted (R373). -/
def State.cellInput (s : State) (i k : Nat) : Nat × Bool :=
  let w := (s.wordAgo (0x60010004 + 0x40 * i + 4 * (k / 2)) 2).toNat
  if k % 2 = 0 then (bitsOf w 12 0, bitOf w 15) else (bitsOf w 28 16, bitOf w 31)

/-- The committed `PERC.CELL_CFG` of cell `i`, as it applies to inputs of two frames ago (R352). -/
def State.cellCfg (s : State) (i : Nat) : Nat := (s.wordAgo (0x60010000 + 0x40 * i) 2).toNat

/-- Whether a cell input names a cell of equal or higher level (R351). -/
def State.disordered (s : State) (i d : Nat) : Bool :=
  decide (5120 ≤ d ∧ d < 6144) && decide (bitsOf (s.cellCfg i) 6 4 ≤ bitsOf (s.cellCfg (d - 5120)) 6 4)

/-- Whether an input of a cell counts as valid (R349). -/
def State.inputValid (s : State) (i d : Nat) : Bool :=
  let b := s.dbitSeen d
  b.valid && !b.stale && !s.disordered i d
    && (!bitOf (s.cellCfg i) 16 || (decide (2 ≤ s.frame) && s.passesRound (s.frame - 2) b))

/-- The operation of FUNC[2:0] over the values taken into account (R350). -/
def cellFunc (func : Nat) (v : List Bool) : Bool :=
  let r := match func % 4 with
    | 0 => v.foldl (fun a b => a != b) false
    | 1 => v.all id
    | 2 => v.any id
    | _ => decide (v.length < 2 * (v.filter id).length)
  r != bitOf func 2

/-- LOGIC_CELL_EVAL: the cell's output of this frame, from its inputs two frames ago (R349 to R351). -/
def execLogicCellEval (i : Fin 1024) (s : State) : Host.Outcome State Fault Refusal :=
  .next (
    let i := i.val
    let cfg := s.cellCfg i
    if s.mode = .reset then s
    else if !bitOf cfg 31 then s.clearDbit (5120 + i)
    else
      let ins := (List.range (bitsOf cfg 12 8)).map (fun k => s.cellInput i k)
      let good := ins.filter (fun x => s.inputValid i x.1)
      let s1 := if ins.any (fun x => s.disordered i x.1) then s.raise 0x60000008 2 else s
      let ok := if bitOf cfg 3 then !good.isEmpty else good.length == ins.length
      if !ok then s1.clearDbit (5120 + i)
      else
        let ds := good.map (fun x => s.dbitSeen x.1)
        let vs := good.map (fun x => (s.dbitSeen x.1).value != x.2)
        let inR := ds.any DBit.inRound
        let tag := (ds.map (fun (d : DBit) => d.tag.toNat)).foldl max 0
        s1.storeDbit (5120 + i)
          { s.dbit (5120 + i) with
            value := cellFunc cfg vs, valid := true, inRound := inR,
            tag := if inR then BitVec.ofNat 32 tag else 0 })

end Sys2Proof.Machine
end

