-- ==== Sys2Proof/Machine/Capture.lean ====
section
/-!
DEFINITION. Capture: merged records (R378, R379), TRACE streams (R387 to R390), triggers (R391) and
snapshots (R392 to R394).
-/
namespace Sys2Proof.Machine

/-! ## Merged records -/

/-- The bytes of a merged record of input `n` (R379). -/
def mergedBytes (n : Nat) (m : Merge) : List Byte :=
  leBytes 6 (1000 * m.period) ++ leBytes 2 n ++ leBytes 4 m.present.toNat ++ leBytes 2 0
    ++ leBytes 2 0x1000 ++ leBytes 8 m.codes.toNat ++ leBytes 4 m.tagged.toNat ++ leBytes 4 m.multi.toNat

/-- MERGED_RECORD: 9,000 frames after a merge period of input `n` has ended, its record is emitted (R379). -/
def execMergedRecord (n : Fin 32) (s : State) : Host.Outcome State Fault Refusal :=
  .next (
    let all := sget [] s.cap.merge n.val
    let due := all.filter (fun m => decide (m.due ≤ s.ticks))
    let rest := all.filter (fun m => decide (s.ticks < m.due))
    let s1 := { s with cap := { s.cap with merge := sset [] s.cap.merge n.val rest } }
    forEach (sortBy Merge.period due) (fun m s => s.emit false (mergedBytes n.val m)) s1)

/-! ## TRACE streams -/

/-- Bytes of TRACE stream `t` in its staging buffer (R390): records, and frames that wait for the port. -/
def State.traceStaged (s : State) (t : Nat) : Nat :=
  ((s.trace t).recs.map (fun r => r.2.length)).sum
    + (((s.hport (s.tracePort t)).waiting.filter (fun f => f.kind == .trace && f.queue.toNat == t)).map
        (fun (f : TxFrame) => f.payload.length)).sum

/-- A TRACE record: header, samples, padding to a whole unit (R389). -/
def traceRec (type count pos : Nat) (body : List Byte) : List Byte :=
  let units := 1 + (body.length + 15) / 16
  [BitVec.ofNat 8 type, 0] ++ leBytes 2 units ++ leBytes 4 count ++ leBytes 8 pos ++ body
    ++ List.replicate (16 * (units - 1) - body.length) 0

/-- A frame of TRACE stream `t` is lost, `f` being its play-timeline frame (R390). -/
def State.traceLose (s : State) (t f : Nat) : State :=
  (s.count (aTrace t 8) 1).modTrace t (fun x => { x with
    lost := x.lost + 1, lostFrom := if x.lost = 0 then f else x.lostFrom })

/-- A record of TRACE stream `t` of play-timeline frame `f` is staged, or lost for want of room (R390). -/
def State.traceStage (s : State) (t f : Nat) (r : List Byte) : State :=
  if 0 < (s.trace t).lost ∨ 65536 < s.traceStaged t + r.length ∨ !s.streaming then s.traceLose t f
  else s.modTrace t (fun x => { x with
    recs := x.recs ++ [(s.ticks, r)] })

/-- A 16-bit component of a chain sample (R388). -/
def traceHalf (shift : Nat) (v : Int) : List Byte := leSigned 2 (satInt 16 (rneInt v shift))

/-- The resampler output of slot `i` at input position `pos` / 2^26, of inputs that lie `d` ADC samples apart from index 0
on; the stream stands at index `m` at place `p` (R296). -/
def State.resampleAt (s : State) (i d pos m p : Nat) : Cpx :=
  let phase := pos / 2 ^ 20 % 64
  chainSum 5 (2 ^ 24) ((List.range 16).map (fun j => (resampleTaps.getD (64 * j + phase) 0, s.chainAt i (p + d * (pos / 2 ^ 26 + 8) - d * j - m))))

/-- The samples of a TRACE stream in play-timeline tick `f`: count, first tag and bytes (R388). -/
def State.traceSamples (s : State) (t f : Nat) : Nat × Nat × List Byte :=
  let w := s.regN (aTrace t 0)
  let sel := bitsOf w 9 0
  let sh := bitsOf w 23 22
  let p := samplePos f 0
  let m := s.sampleIndex p
  let k := s.ticks - f
  let d := 8 * 2 ^ bitsOf (s.wordAgo (aSlot sel 0xC) k).toNat 1 0
  let two (z : Cpx) : List Byte := traceHalf sh z.re ++ traceHalf sh z.im
  match bitsOf w 25 24 with
  | 0 => (8, m, (List.range 8).flatMap (fun j => leSigned 2 (s.adcAt (sel % 32) (p + j))))
  | 1 => if m % d = 0 then (1, m, two (s.chainAt sel p)) else (0, 0, [])
  | 2 =>
    let step := (s.wordAgo (aSlot sel 0x10) k).toNat
    if bitsOf (s.wordAgo (aSlot sel 0xC) k).toNat 16 16 = 0 ∨ step = 0 then (0, 0, [])
    else
      let k0 := (m * 2 ^ 26 + d * step - 1) / (d * step)
      let k1 := ((m + 8) * 2 ^ 26 + d * step - 1) / (d * step)
      let ks := (List.range (k1 - k0)).map (fun i => k0 + i)
      (ks.length, k0 * d * step / 2 ^ 26, ks.flatMap (fun k => two (s.resampleAt sel d (k * step) m p)))
  | _ => (0, 0, [])

/-- Frames from the ball tick `b` of a sample of TRACE stream `t` until every sample that its filters look ahead to has
had its play frame: until then the settings that R293 names are not all known. -/
def State.traceLag (s : State) (t b : Nat) : Nat :=
  let w := s.regN (aTrace t 0)
  let x := (s.wordAgo (aSlot (bitsOf w 9 0) 0xC) (s.ticks + 32 - b)).toNat
  let n := 2 ^ bitsOf x 1 0
  match bitsOf w 25 24 with
  | 1 => 3 + 31 * (n - 1) + (if bitOf x 4 then bitsOf x 13 8 * n else 0) - 32
  | 2 => 4 + 31 * (n - 1) + (if bitOf x 4 then bitsOf x 13 8 * n else 0) + 8 * n - 32
  | _ => 0

/-- The next tick of TRACE stream `t`: the MARKs of its frame, and its samples as one DATA record (R388 to R390). The
frames of a loss that carry no sample belong to it, and what did not reach the ball in READY or RUN is lost. -/
def State.traceTick (s : State) (t : Nat) : State :=
  let x := s.trace t
  if s.ticks < x.at_ + s.traceLag t x.at_ then s
  else
    let s1 := s.modTrace t (fun x => { x with at_ := x.at_ + 1, marks := x.marks.filter (fun m => decide (x.at_ < m.1)) })
    let f := s.numberAt (x.at_ - 32)
    let s2 := forEach (x.marks.filter (fun m => decide (m.1 ≤ x.at_))) (fun m s => s.traceStage t f m.2) s1
    if x.at_ < 32 then s2
    else if !s.streaming || !s.ranIn x.at_ then s2.traceLose t f
    else
      let r := s.traceSamples t (x.at_ - 32)
      if r.1 = 0 then (if 0 < (s2.trace t).lost then s2.traceLose t f else s2)
      else s2.traceStage t f (traceRec 0x10 r.1 r.2.1 r.2.2)

/-- TRACE stream `t` takes the samples that are known in full in this frame (R388). -/
def State.traceData (s : State) (t : Nat) : State :=
  if !s.traceOpen t then s else repeatN (s.ticks + 1 - (s.trace t).at_) (fun s => s.traceTick t) s

/-- The frames of a TRACE stream that are full, or whose oldest record has waited, go out (R102). -/
def State.traceSend (s : State) (t : Nat) : State :=
  let room := s.maxPayload (s.tracePort t) none / 16 * 16
  if !s.streaming then s
  else repeatN (s.trace t).recs.length (fun s =>
    if room < ((s.trace t).recs.map (fun r => r.2.length)).sum + 16
        ∨ (s.trace t).recs.any (fun r => decide (r.1 + s.fld 0x0100001C 15 0 ≤ s.ticks)) then s.formTrace t else s) s

/-- GAP records of a loss of `n` frames from frame `f`; each counts at most 2^32 − 1 (R389). -/
def gapRecs (fuel f n : Nat) : List (List Byte) :=
  match fuel with
  | 0 => []
  | fuel + 1 =>
    if n = 0 then []
    else
      let k := min n (2 ^ 32 - 1)
      traceRec 0x11 k f [] :: gapRecs fuel (f + k) (n - k)

/-- GAP: room has returned, and the lost span is recorded before any later samples (R390). -/
def execGap (t : Fin 64) (s : State) : Host.Outcome State Fault Refusal :=
  .next (
    let x := s.trace t.val
    let rs := gapRecs (x.lost / (2 ^ 32 - 1) + 1) x.lostFrom x.lost
    if x.lost = 0 ∨ !s.streaming ∨ !s.traceOpen t.val ∨ 65536 < s.traceStaged t.val + 16 * rs.length then s
    else s.modTrace t.val (fun x => { x with
      recs := x.recs ++ rs.map (fun r => (s.ticks, r)), lost := 0 }))

/-! ## Triggers and snapshots -/

/-- The state of snapshot `n`: a re-arm whose 64 frames are over has ended (R392). -/
def State.snapState (s : State) (n : Nat) : Nat :=
  let st := s.fld (aSnap n 0xC) 1 0
  if st = 1 ∧ (s.snap n).rearm ≤ s.ticks then 2 else st

/-- A trigger with trigger frame `ft`, which is tick `tick`, reaches snapshot `n` (R392, R393). -/
def State.snapTrigger (s : State) (n ft tick : Nat) : State :=
  match s.snapState n with
  | 0 => s
  | 2 =>
    let pre := s.fld (aSnap n 4) 16 0
    let post := s.fld (aSnap n 8) 16 0
    (s.setFld (aSnap n 0xC) 1 0 3).modSnap n (fun x => { x with
      trig := ft, at_ := tick, pre := min pre (tick + 32 - x.rearm), post := min post (65536 - pre),
      clip := decide (65536 - pre < post) })
  | _ => (s.raise (aSnap n 0xC) 3).count (aSnap n 0x20) 1

/-- A MARK record of TRACE stream `t` of play-timeline frame `f`: it comes before the samples of its frame (R390). -/
def State.traceMark (s : State) (t f : Nat) (r : List Byte) : State :=
  if s.traceLag t s.ticks = 0 then s.traceStage t f r
  else s.modTrace t (fun x => { x with marks := x.marks ++ [(s.ticks, r)] })

/-- TRIGGER_EDGE: a rising edge of TRG input `i` at position `pos` of this frame at the ball reaches the
snapshots and TRACE streams that name it (R390 to R392). -/
def execTriggerEdge (i : Fin 48) (pos : Fin 16) (s : State) : Host.Outcome State Fault Refusal :=
  .next (
    let now := 16 * s.ticks + pos.val
    let soon := match sget none s.cap.edges i.val with
      | some p => decide (now < p + 64)
      | none => false
    if !s.streaming || soon then s
    else
      let ft := s.numberAt (s.ticks - 32)
      let s1 := { s with cap := { s.cap with edges := sset none s.cap.edges i.val (some now) } }
      let s2 := forEach (List.range 32) (fun n s =>
        if s.fld (aSnap n 0) 8 8 = 1 ∧ s.fld (aSnap n 0) 5 0 = i.val then s.snapTrigger n ft (s.ticks - 32) else s) s1
      forEach (List.range 64) (fun t s =>
        let m := s.regN (aTrace t 4)
        if s.traceOpen t && bitOf m 31 && bitsOf m 5 0 == i.val then
          s.traceMark t ft (traceRec 0x12 (i.val + 256 * pos.val) ft [])
        else s) s2)

/-- A write of 1 to `CAP.SNAP_CTRL.ARM` ends any capture and begins a re-arm (R392). -/
def State.snapArm (s : State) (n : Nat) : State :=
  (s.setFld (aSnap n 0xC) 1 0 1).modSnap n (fun _ => ⟨s.ticks + 64, 0, 0, 0, 0, false⟩)

/-- REARM_END: the re-arm of input `n` ends, and its memory fills (R392). -/
def execRearmEnd (n : Fin 32) (s : State) : Host.Outcome State Fault Refusal :=
  .next (
    if s.fld (aSnap n.val 0xC) 1 0 = 1 ∧ (s.snap n.val).rearm ≤ s.ticks then
      s.setFld (aSnap n.val 0xC) 1 0 2
    else s)

/-- The tick in which the samples of a triggered capture are all held (R392). -/
def Snap.doneAt (x : Snap) : Nat := x.at_ + x.post + 32

/-- The bytes of a snapshot memory from its samples (R394). -/
def snapBytes (l : List Int) : List Byte := l.flatMap (fun v => leSigned 2 v)

/-- SNAPSHOT_COMPLETE: the capture of input `n` completes; its registers report it, and with AUTO = 1 a new re-arm begins
in the next frame (R392 to R394). -/
def execSnapshotComplete (n : Fin 32) (s : State) : Host.Outcome State Fault Refusal :=
  .next (
    let i := n.val
    let x := s.snap i
    if s.fld (aSnap i 0xC) 1 0 ≠ 3 ∨ s.ticks < x.doneAt then s
    else
      let cnt := (s.fld (aSnap i 0xC) 31 16 + 1) % 65536
      let codes := (List.range (8 * (x.pre + x.post))).map (fun k => s.adcAt i (samplePos (x.at_ - x.pre) k))
      let s1 := s.setBytes (0x72000000 + 0x100000 * i) (snapBytes codes)
      let s2 := ((((s1.setRegN (aSnap i 0x10) x.pre).setRegN (aSnap i 0x14) x.post).setReg64
        (aSnap i 0x18) x.trig).setFld (aSnap i 0xC) 31 16 cnt).setFld (aSnap i 0xC) 2 2 (b2n x.clip)
      if s.fld (aSnap i 0) 30 30 = 1 then
        (s2.setFld (aSnap i 0xC) 1 0 1).modSnap i (fun _ => ⟨s.ticks + 1 + 64, 0, 0, 0, 0, false⟩)
      else s2.setFld (aSnap i 0xC) 1 0 0)

end Sys2Proof.Machine
end

