-- ==== Sys2Proof/Machine/NetTime.lean ====
section
/-!
DEFINITION. The network time unit (R468 to R483): the clock, the servo, holdover, reception with
timestamps, the launch queue and the correlation pairs.
-/
namespace Sys2Proof.Machine

/-- The value of a 32-bit word as a signed number. -/
def wordInt (v : Word) : Int := v.toInt

/-- The clock's whole nanoseconds (R470). -/
def State.ns (s : State) : Word := (s.ntu.clock >>> 32).setWidth 32

/-- The clock's advance INC (R470). -/
def State.ntuInc (s : State) : Int :=
  (s.fld 0x02000014 7 0 * 2 ^ 32 + s.regN 0x02000010 : Nat) + s.ntu.d

/-- The clock advances by one frame: a step of the frame before is added first (R470, R471). The Barista's
extension of the clock goes along (R530). -/
def State.ntuTick (s : State) : State :=
  let stepped := s.ntu.clock + BitVec.ofInt 64 (s.ntu.step * 2 ^ 32)
  let clock := stepped + BitVec.ofInt 64 s.ntuInc
  let gone : Int := ((clock >>> 32).setWidth 32 - (stepped >>> 32).setWidth 32 : Word).toNat
  { s with
    ntu := { s.ntu with clock := clock, step := 0 },
    bar := { s.bar with clockNs := s.bar.clockNs + s.ntu.step + gone } }

/-- Whether the network time unit works: in BOOT from firmware start (R59). -/
def State.ntuWorks (s : State) : Bool :=
  match s.mode with
  | .reset => false
  | .boot => decide (2 ≤ s.boot.step)
  | _ => true

/-! ## The servo (R473 to R475) -/

/-- Whether the unit is in holdover (R474). -/
def State.holdover (s : State) : Bool := s.fld 0x02000004 0 0 = 1

/-- The adjustment d for an offset o and the integrator S that already holds it, before its limit (R473). -/
def servoAdjust (kp o si : Int) : Int := -(rneInt (kp * o + si) 16)

/-- d limited to ±429,497 (R473). -/
def servoLimit (d : Int) : Int := max (-429497) (min 429497 d)

/-- A write of `NTU.SERVO_OFFSET` (R473, R474). -/
def State.servoOffset (s : State) (o : Int) : State :=
  if s.holdover then s.count 0x0200005C 1
  else if s.fld 0x0200002C 0 0 = 0 then s
  else
    let u : ServoUndo := match s.ntu.undo with
      | some u => if u.frame = s.frame then { u with writes := u.writes + 1 }
          else ⟨s.frame, s.ntu.s, s.ntu.d, bitOf (s.regN 0x02000004) 2, 1⟩
      | none => ⟨s.frame, s.ntu.s, s.ntu.d, bitOf (s.regN 0x02000004) 2, 1⟩
    let si := satInt 48 (s.ntu.s + (s.fld 0x02000020 15 0 : Int) * o)
    let d := servoAdjust (s.fld 0x02000020 31 16) o si
    let s1 := { s with ntu := { s.ntu with s := si, d := servoLimit d, undo := some u } }
    if servoLimit d = d then s1 else s1.raise 0x02000004 2

/-- A write of 1 to `NTU.SERVO_CTRL.CLEAR` (R473). -/
def State.servoClear (s : State) : State := { s with ntu := { s.ntu with
  s := 0, d := 0, undo := s.ntu.undo.map (fun u => { u with s := 0, d := 0 }) } }

/-- A write of 1 to `NTU.SERVO_CTRL.RESUME` (R475). -/
def State.ntuResume (s : State) : State := s.setFld 0x02000004 0 0 0

/-- A write of `NTU.STEP`: the clock takes it in the next frame (R471). -/
def State.ntuStep (s : State) (v : Int) : State :=
  { s with ntu := { s.ntu with step := s.ntu.step + v } }

/-- Holdover begins, with its cause for the recorder: 0 a foreign identity, 1 the timeout; offset writes of
this frame are ignored (R474). -/
def State.enterHoldover (s : State) (cause : Nat) : State :=
  if s.holdover then s
  else
    let s1 := match s.ntu.undo with
      | some u => if u.frame = s.frame then
            (({ s with ntu := { s.ntu with s := u.s, d := u.d, undo := none } }).setFld 0x02000004 2 2
              (b2n u.limit)).count 0x0200005C u.writes
          else s
      | none => s
    ((s1.raise 0x02000004 0).raise 0x02000004 1).record 0x21 (leBytes 1 cause)

/-- When the last Sync from the master was delivered, in ticks; 0 before the first. An all-zero `NTU.MASTER_ID` matches
any identity (R474). -/
def State.lastSync (s : State) : Nat :=
  let id := s.regN 0x02000034 * 2 ^ 32 + s.regN 0x02000030
  s.ntu.syncs.foldl (fun m p =>
    if id = 0 ∨ p.1 = id * 2 ^ 16 + s.fld 0x02000038 15 0 then max m p.2 else m) 0

/-- HOLDOVER_TIMEOUT: no Sync from the master for TIMEOUT_MS milliseconds (R474). -/
def execHoldoverTimeout (s : State) : Host.Outcome State Fault Refusal :=
  .next (
    let ms := s.fld 0x0200003C 15 0
    if ms ≠ 0 ∧ s.ntuWorks ∧ s.lastSync + 1000000 * ms ≤ s.ticks then s.enterHoldover 1 else s)

/-! ## Which frames are delivered (R77, R469) -/

/-- Whether a frame's tags are as `HOST.VLAN` asks (R77). -/
def State.vlanOk (s : State) (f : EthFrame) : Bool :=
  if s.fld 0x0100000C 16 16 = 1 then decide (f.vlan = [BitVec.ofNat 12 (s.fld 0x0100000C 11 0)])
  else f.vlan.isEmpty

/-- Whether an IP destination is the device's address of set `k`. -/
def State.ipIsDevice (s : State) (k : Nat) (ip : IpPart) : Bool :=
  if ip.v6 then ip.dst == s.ipv6At (aHostSet k 0x18)
  else ip.dst == BitVec.ofNat 128 (s.regN (aHostSet k 0x10))

/-- The PTP multicast groups of R469. -/
def ptpGroup (ip : IpPart) : Bool :=
  if ip.v6 then ip.dst == 0xFF0E0000000000000000000000000181#128
      || ip.dst == 0xFF02000000000000000000000000006B#128
  else ip.dst == 0xE0000181#128 || ip.dst == 0xE000006B#128

/-- How a received frame reaches the network time unit: transport 0 (Layer 2), 1 (IPv4) or 2 (IPv6) when
the filter hands it over; whether it is to be delivered is judged by `ptpOk` (R77, R469). -/
def State.ptpTransport (s : State) (k : Nat) (f : EthFrame) : Option Nat :=
  if f.etherType = 0x88F7 then some 0
  else match f.ip with
    | some ip =>
      if (ip.dstPort = 319 ∨ ip.dstPort = 320)
          ∧ (ptpGroup ip ∨ (f.dstMac = s.macAt (aHostSet k 0) ∧ s.ipIsDevice k ip)) then
        some (if ip.v6 then 2 else 1)
      else none
    | none => none

/-- Whether a frame handed to the unit is delivered to it (R469). -/
def State.ptpOk (s : State) (k : Nat) (f : EthFrame) (tr : Nat) : Bool :=
  s.vlanOk f && bitOf (s.regN 0x02000000) tr
    && (tr ≠ 0 || f.dstMac == s.macAt (aHostSet k 0) || f.dstMac == 0x011B19000000#48
      || f.dstMac == 0x0180C200000E#48)
    && (!s.split || k == s.fld 0x02000000 5 4)
    && decide (f.raw.length ≤ 256)

/-! ## Reception (R474, R476, R477) -/

/-- The correction register of a direction (0 transmit, 1 receive), in units of 2^−32 ns (R476). -/
def State.ntuCorr (s : State) (dir : Nat) : Int :=
  (s.reg (0x02000040 + (if s.split then 8 else 0) + 4 * dir)).toInt * 2 ^ 24

/-- Byte offsets that a bit can have in the datapath word of a frame: 50 bytes at 400 Gbit/s, and 12.5 at 100 Gbit/s (R476,
"Link throughput"). -/
def State.wordBytes (s : State) : Nat := if s.split then 13 else 50

/-- The clock value with the position of a bit at byte `pos` of the datapath word (R476). -/
def State.stamp (s : State) (pos : Nat) : Int :=
  (s.ntu.clock.toNat : Int) + Config.picoUnits (pos % s.wordBytes * (if s.split then 80 else 20))

/-- The messageType of a PTP message (R468). -/
def ptpType (pl : List Byte) : Nat := leAt pl 0 1 % 16

/-- Whether a PTP message's sourcePortIdentity is the master's; an all-zero `NTU.MASTER_ID` matches any
(R474). -/
def State.fromMaster (s : State) (pl : List Byte) : Bool :=
  let id := s.regN 0x02000034 * 2 ^ 32 + s.regN 0x02000030
  id = 0 || (beNat ((pl.drop 20).take 8) = id && beNat ((pl.drop 28).take 2) = s.fld 0x02000038 15 0)

/-- A Sync of this frame is noted with its sourcePortIdentity (R474). -/
def State.noteSync (s : State) (pl : List Byte) : State :=
  let id := beNat ((pl.drop 20).take 8) * 2 ^ 16 + beNat ((pl.drop 28).take 2)
  { s with ntu := { s.ntu with syncs := (id, s.ticks) :: s.ntu.syncs.filter (fun p => p.1 ≠ id) } }

/-- A delivered Sync or Announce and the servo (R474). -/
def State.ptpMaster (s : State) (pl : List Byte) : State :=
  let ty := ptpType pl
  let s1 := if ty = 0 then s.noteSync pl else s
  if (ty = 0 ∨ ty = 0xB) ∧ s.fromMaster pl = false then s1.enterHoldover 0 else s1

/-- A delivered frame enters the receive ring, or is dropped where 64 are held (R476, R477). -/
def State.ptpStore (s : State) (k tr : Nat) (f : EthFrame) (pos : Nat) : State :=
  if 64 ≤ s.ntu.used then s.count 0x02000058 1
  else
    let j := s.fld 0x02000050 5 0
    let a := 0x02010000 + 0x200 * j
    let t := ((s.stamp pos - s.ntuCorr 1) % (2 ^ 64 : Int)).toNat
    let event := if tr = 0 then decide (ptpType f.payload ≤ 3)
      else match f.ip with
        | some ip => decide (ip.dstPort = 319)
        | none => false
    let info := f.raw.length % 512 + k * 2 ^ 12 + tr * 2 ^ 16 + b2n event * 2 ^ 18
    let s1 := ((s.setMemWord a (t / 2 ^ 32)).setMemWord (a + 4) (t % 2 ^ 32)).setMemWord (a + 8) info
    let s2 := (s1.setBytes (a + 0x100) f.raw).setFld 0x02000050 5 0 (j + 1)
    { s2 with ntu := { s2.ntu with used := s.ntu.used + 1 } }

/-- A frame that the filter hands to the unit is delivered, or dropped and counted (R469). -/
def State.ptpTake (s : State) (k : Nat) (f : EthFrame) (tr pos : Nat) : State :=
  if s.ptpOk k f tr then (s.ptpMaster f.payload).ptpStore k tr f pos else s.count 0x02000058 1

/-- PTP_RECEIVE: a PTP frame whose first bit stands at byte `pos` of its datapath word (R469, R474, R476,
R477). -/
def execPtpReceive (port : Fin 4) (f : EthFrame) (pos : Nat) (s : State) :
    Host.Outcome State Fault Refusal :=
  .next (
    if !s.hostUp ∨ !(s.hport port.val).up ∨ !f.fcsOk then s
    else match s.ptpTransport port.val f with
      | some tr => s.ptpTake port.val f tr pos
      | none => s)

/-- A write of `NTU.RX_TAIL` frees the entries it passes (R477). -/
def State.rxTail (s : State) (old new : Nat) : State :=
  { s with ntu := { s.ntu with used := s.ntu.used - (new + 64 - old) % 64 } }

/-! ## The launch queue (R478 to R480) -/

/-- The signed distance from the clock to launch time L of entry `i` (R479). -/
def State.launchAhead (s : State) (i : Nat) : Int := (s.reg (aLaunch i 0) - s.ns).toInt

/-- The refusal of a write of `CTRL` that arms entry `i` (R478). -/
def State.launchBad (s : State) (i : Nat) (v : Word) : Option Status :=
  let len := bitsOf v.toNat 8 0
  if !bitOf v.toNat 31 then none
  else if (s.launch i).armed then some .liveWriteRefused
  else if len = 0 then some .zeroRefused
  else if len < 60 ∨ 256 < len then some .rangeRefused
  else if !bitOf v.toNat 30 && s.reg (aLaunch i 0) - s.ns == 0x80000000#32 then some .rangeRefused
  else none

/-- A write of `CTRL` of entry `i`; GO reads 1 from arming until the entry is sent (R478, R479). -/
def State.launchCtrl (s : State) (i : Nat) (v : Word) : State :=
  let armed := (s.launch i).armed
  let s1 := s.setRegN (aLaunch i 4) (withBits (Nat.land v.toNat 0xF03F01FF) 31 31
    (b2n (armed || bitOf v.toNat 31)))
  if armed ∨ !bitOf v.toNat 31 then s1
  else
    let imm := bitOf v.toNat 30
    let late := !imm && decide (s.launchAhead i < 0)
    (s1.modLaunch i (fun _ => ⟨true, imm || late⟩)).setRegN (aLaunch i 0xC) (2 * b2n late)

/-- LAUNCH_DUE: an armed entry whose launch time the clock has reached waits for the port (R479). -/
def execLaunchDue (i : Fin 64) (s : State) : Host.Outcome State Fault Refusal :=
  .next (
    let x := s.launch i.val
    if s.mode ≠ .reset ∧ x.armed ∧ !x.due ∧ s.launchAhead i.val ≤ 0 then
      s.modLaunch i.val (fun x => { x with due := true })
    else s)

/-- The 16-bit one's-complement sum of bytes, high byte first. -/
def onesSum (l : List Byte) : Nat :=
  match l with
  | [] => 0
  | [a] => a.toNat * 256
  | a :: b :: t => a.toNat * 256 + b.toNat + onesSum t

/-- The Internet checksum that makes a sum complete; a computed 0 is sent as 0xFFFF. -/
def inetChecksum (n : Nat) : Nat :=
  let fold (n : Nat) : Nat := n / 65536 + n % 65536
  let c := 65535 - fold (fold (fold n))
  if c = 0 then 65535 else c

/-- Bytes of a list replaced from an offset, within its length. -/
def splice (l : List Byte) (o : Nat) (r : List Byte) : List Byte :=
  (l.take o ++ r ++ l.drop (o + r.length)).take l.length

/-- A frame with its UDP checksum computed anew where it is a UDP frame whose checksum field is non-zero
(R480). -/
def fixUdp (l : List Byte) : List Byte :=
  let o := if beNat ((l.drop 12).take 2) = 0x8100 then 18 else 14
  let et := beNat ((l.drop (o - 2)).take 2)
  let b (i : Nat) : Nat := leAt l (o + i) 1
  let go (udp : Nat) (addrs : List Byte) : List Byte :=
    if beNat ((l.drop (udp + 6)).take 2) = 0 then l
    else
      let len := beNat ((l.drop (udp + 4)).take 2)
      let body := splice ((l.drop udp).take len) 6 [0, 0]
      splice l (udp + 6) (beBytes 2 (inetChecksum (onesSum addrs + 17 + len + onesSum body)))
  if et = 0x0800 ∧ b 9 = 17 then go (o + 4 * (b 0 % 16)) ((l.drop (o + 12)).take 8)
  else if et = 0x86DD ∧ b 6 = 17 then go (o + 40) ((l.drop (o + 8)).take 32)
  else l

/-- The frame that entry `i` sends with transmit timestamp `t`, without its FCS (R480). -/
def State.launchFrame (s : State) (i : Nat) (t : Int) : List Byte :=
  let c := s.regN (aLaunch i 4)
  let l := s.bytesAt (aLaunch i 0x100) (bitsOf c 8 0)
  if !bitOf c 29 then l
  else
    let rx := 0x02010000 + 0x200 * bitsOf c 21 16
    let ref : Int := if bitOf c 28 then (s.memWord rx * 2 ^ 32 + s.memWord (rx + 4) : Nat)
      else (s.regN (aLaunch i 0) * 2 ^ 32 : Nat)
    let o := s.fld (aLaunch i 8) 7 0 + 8
    let diff := (BitVec.ofInt 64 (t - ref)).toInt
    let cf := BitVec.ofNat 64 (beNat ((l.drop o).take 8)) + BitVec.ofInt 64 (Config.correction diff)
    fixUdp (splice l o (beBytes 8 cf.toNat))

/-- The port of the network time unit's frames (R469). -/
def State.ntuPort (s : State) : Nat := if s.split then s.fld 0x02000000 5 4 else 0

/-- Entry `i` is sent: the frame on the wire, with the timestamp stored, DONE set and the entry disarmed
(R476, R479, R480). -/
def State.launchSend (s : State) (i : Nat) : TxFrame × State :=
  let (n, s0) := s.fresh
  let t := s0.stamp (Config.position n) + s0.ntuCorr 0
  let tn := (t % (2 ^ 64 : Int)).toNat
  let bytes := s0.launchFrame i tn
  let f : TxFrame :=
    { net := none, kind := .launch i, queue := 0, opcode := 0, status := 0, flags := 0, epoch := 0, seq := 0, ack := 0,
      tag := 0, arg := 0, payload := bytes, wire := max 64 (bytes.length + 4) + 20, gen := 0 }
  let s1 := (s0.setRegN (aLaunch i 0x10) (tn / 2 ^ 32)).setRegN (aLaunch i 0x14) (tn % 2 ^ 32)
  let s2 := (s1.setFld (aLaunch i 0xC) 0 0 1).setFld (aLaunch i 4) 31 31 0
  (f, s2.modLaunch i (fun _ => .init))

/-- The lowest launch entry that is due. -/
def State.launchNext (s : State) : Option Nat :=
  firstSome s.ntu.launch (fun p => if p.2.armed && p.2.due then some p.1 else none)

/-! ## Correlation pairs (R481) -/

/-- A correlation pair is latched, the SYNC flag marking an epoch (R481). -/
def State.latchPair (s : State) (sync : Bool) : State :=
  let k := if s.ntu.pairSeq = 0 then 0 else (s.fld 0x02000060 3 0 + 1) % 16
  let a := 0x02000100 + 0x20 * k
  let s1 := (s.setReg64 a s.frame).setRegN (a + 8) (s.ntu.clock.toNat / 2 ^ 32)
  let s2 := (s1.setRegN (a + 12) s.ntu.clock.toNat).setRegN (a + 16)
    (b2n sync * 2 ^ 31 + s.ntu.pairSeq % 65536)
  { s2.setFld 0x02000060 3 0 k with
    ntu := { s2.ntu with pairSeq := s.ntu.pairSeq + 1, lastPair := some s.frame } }

/-- PAIR_LATCH: in every frame whose number is a multiple of 2^20 (R481). -/
def execPairLatch (s : State) : Host.Outcome State Fault Refusal :=
  .next (if s.ntuWorks ∧ s.frame % 2 ^ 20 = 0 ∧ s.ntu.lastPair ≠ some s.frame then s.latchPair false
    else s)

end Sys2Proof.Machine
end

