-- ==== Sys2Proof/Machine/Gollet.lean ====
section
/-!
DEFINITION. The Gollet link (R448 to R460, R463, R465) and epochs (R461 to R464).
-/
namespace Sys2Proof.Machine

/-! ## Ports -/

/-- `GL.STATUS.STATE` of port `p`: 0 OFF, 1 TRAIN, 2 UP (R452). -/
def State.golState (s : State) (p : Nat) : Nat := s.fld (aGl p 0xC) 1 0

/-- Whether the lanes are active in this mode (R54). -/
def State.lanesOn (s : State) : Bool :=
  match s.mode with
  | .ready | .run | .sleep | .safe => true
  | _ => false

/-- The first inbound D-bit of group `g` of port `p` (R457). -/
def inbound (p g : Nat) : Nat := 3072 + 256 * p + 8 * g

/-- Whether inbound group `g` of port `p` is stale (R458). -/
def State.groupStale (s : State) (p g : Nat) : Bool := (s.dbit (inbound p g)).stale

/-- `GL.STALE_GROUPS` of port `p` (R458). -/
def State.staleGroups (s : State) (p : Nat) : Word :=
  BitVec.ofNat 32 ((List.range 32).foldr (fun g n => 2 * n + b2n (s.groupStale p g)) 0)

/-- Inbound groups of port `p` become stale in this frame, by a mark that begins in frame `from_`; where an earlier mark
stands, the later of the two frames counts (R458). -/
def State.markStale (s : State) (p : Nat) (groups : Word) (from_ : Nat) : State :=
  forEach ((List.range 32).filter (fun g => groups.getLsbD g)) (fun g s =>
    let f := if s.groupStale p g then max from_ (sget 0 (s.gol p).staleFrom g) else from_
    let s1 := forEach (List.range 8) (fun i s =>
      let d := inbound p g + i
      s.putDbit d { s.dbit d with stale := true }) s
    s1.modGol p (fun x => { x with staleFrom := sset 0 x.staleFrom g f })) s

/-- A port leaves UP: its inbound bits become stale, and a calibration ends without changing C (R453,
R458). -/
def State.golDown (s : State) (p st : Nat) : State :=
  let s1 := if s.golState p = 2 then s.markStale p 0xFFFFFFFF s.frame else s
  (s1.setFld (aGl p 0xC) 1 0 st).modGol p (fun x => { x with
    calOn := false, calSent := none, echo := none, out := none, half := none, block := none })

/-! ## Flits (R450, R451) -/

/-- The CRC of a flit's bits [63:16] (R451). -/
def flitCrc (f : Nat) : Nat := crc16Bits ((List.range 48).map (fun i => f.testBit (63 - i)))

/-- A flit from its TYPE, RREQ and payload bits [59:16]. -/
def mkFlit (ty : Nat) (rreq : Bool) (payload : Nat) : BitVec 64 :=
  let f := ty * 2 ^ 61 + b2n rreq * 2 ^ 60 + payload % 2 ^ 44 * 2 ^ 16
  BitVec.ofNat 64 (f + flitCrc f)

/-- An UPDATE entry: LAG, GROUP, VALID and VALUES (R450). -/
def mkEntry (lag : Bool) (g : Nat) (st : BitVec 16) : Nat := b2n lag * 2 ^ 21 + g * 2 ^ 16 + st.toNat

/-- Outbound group `g` of port `p` in this frame: VALID flags and VALUES (R455). -/
def State.outGroup (s : State) (p g : Nat) : BitVec 16 :=
  let bits := (List.range 8).map (fun i =>
    let w := s.regN (0x04001000 + 0x400 * p + 4 * (8 * g + i))
    let d := s.dbit (bitsOf w 12 0)
    if bitOf w 31 then (d.value, d.valid && !d.stale) else (false, false))
  let pack (f : Bool × Bool → Bool) : Nat := bits.foldr (fun b n => 2 * n + b2n (f b)) 0
  BitVec.ofNat 16 (256 * pack (·.2) + pack (·.1))

/-- The outbound bits of a port in this frame. -/
def State.outGroups (s : State) (p : Nat) : Sparse (BitVec 16) :=
  (List.range 32).foldl (fun l g => sset 0 l g (s.outGroup p g)) []

/-- The groups that differ between two frames, with their new state (R455). -/
def changedGroups (old new : Sparse (BitVec 16)) : List (Nat × BitVec 16) :=
  ((List.range 32).filter (fun g => sget 0 old g ≠ sget 0 new g)).map (fun g => (g, sget 0 new g))

/-- A word with the bits of the named groups. -/
def groupBits (l : List Nat) : Word := l.foldl (fun w g => w ||| BitVec.ofNat 32 (2 ^ g)) 0

/-- What a flit without an entry carries: a queued MSG, a due EPOCH, a CAL echo or exchange, or nothing
(R453, R456, R463). -/
def State.idleFlit (s : State) (p : Nat) (rreq : Bool) : State :=
  let x := s.gol p
  let put (f : BitVec 64) (g : Gol → Gol) : State := s.modGol p (fun x => { g x with out := some f })
  match x.txq with
  | (ch, d) :: rest =>
    put (mkFlit 4 rreq (ch.toNat * 2 ^ 36 + d.toNat * 2 ^ 4)) (fun x => { x with txq := rest })
  | [] =>
    if s.fld (aGl p 0) 2 2 = 1 ∧ s.fld 0x11C 1 1 = 1 ∧ s.frame % 65536 = 0 then
      put (mkFlit 5 rreq (s.frame % 2 ^ 44)) id
    else match x.echo with
      | some (q, b) =>
        put (mkFlit 6 rreq (2 ^ 43 + q.toNat * 2 ^ 35 + (s.ticks - b) % 256 * 2 ^ 27))
          (fun x => { x with echo := none })
      | none =>
        let retry := match x.calSent with
          | some f => decide (f + 1024 ≤ s.ticks)
          | none => true
        if x.calOn && decide (0 < x.calLeft) && retry then
          put (mkFlit 6 rreq ((x.calSeq + 1).toNat * 2 ^ 35))
            (fun x => { x with calSeq := x.calSeq + 1, calSent := some s.ticks })
        else put (mkFlit 0 rreq 0) id

/-- Whether an inbound group of port `p` is stale in this frame; one whose stale flag clears in it counts still (R459, and
the worked example of 16_gollet.md). -/
def State.askRefresh (s : State) (p : Nat) : Bool :=
  decide (s.staleGroups p ≠ 0)
    || s.dlog.any (fun c => c.tick == s.ticks && decide (inbound p 0 ≤ c.idx ∧ c.idx < inbound p 32) && c.old.stale)

/-! ## Lanes (R448) -/

/-- The scrambler of IEEE 802.3 Clause 49, 1 + x^39 + x^58, over the bits of a block from bit 0 up: the bits that go out,
and its last 58 bits, the last one in bit 0 (R448). -/
def scramble (st : BitVec 58) (v : BitVec 64) : BitVec 58 × BitVec 64 :=
  (List.range 64).foldl (fun (x : BitVec 58 × BitVec 64) i =>
    let b := (v.getLsbD i ^^ x.1.getLsbD 38) ^^ x.1.getLsbD 57
    let o := BitVec.ofNat 64 (b2n b)
    (x.1 <<< 1 ||| BitVec.ofNat 58 (b2n b), x.2 ||| o <<< i)) (st, 0)

/-- Whether a flit takes part in calibration, whose blocks are control blocks (R448, R453). -/
def isCal (f : BitVec 64) : Bool := decide (bitsOf f.toNat 63 61 = 6)

/-- The flit of this frame goes onto the lanes: the second of two fills a block on each, the earlier flit's half in block
bits [31:0] (R448). Pairs are counted from training on, and a block with a CAL flit in it has the sync header of a control
block (DESIGN CHOICE, log entry 70). -/
def State.golLanes (s : State) (p : Nat) : State :=
  let x := s.gol p
  match x.out, x.half with
  | none, _ => s
  | some f, none => s.modGol p (fun x => { x with half := some f })
  | some f, some e =>
    let a := scramble x.scr.1 (f.extractLsb' 32 32 ++ e.extractLsb' 32 32)
    let b := scramble x.scr.2 (f.extractLsb' 0 32 ++ e.extractLsb' 0 32)
    let h : BitVec 2 := if isCal e || isCal f then 2 else 1
    s.modGol p (fun x => { x with half := none, scr := (a.1, b.1), block := some (a.2 ++ h, b.2 ++ h) })

/-- The flit whose snapshot frame is this frame is formed; in a skip frame the changes wait for the
next one (R449, R455, R456, R459). -/
def State.golForm (s : State) (p : Fin 8) : State :=
  let i := p.val
  let x := s.gol i
  let now := s.outGroups i
  let ch := changedGroups x.last now
  if s.frame % 33 = s.fld (aGl i 0xC) 21 16 then
    s.modGol i (fun x => { x with last := now, prevChange := ch, prevFrame := s.ticks, out := none })
  else
    let lag := if x.prevFrame + 1 = s.ticks then x.prevChange else []
    let rreq := s.askRefresh i
    let total := lag.length + ch.length
    let s1 := s.modGol i (fun x => { x with last := now, prevChange := [] })
    if 2 < total then
      let m := groupBits (lag.map (·.1) ++ ch.map (·.1))
      s1.modGol i (fun x => { x with
        backlog := x.backlog ||| m, out := some (mkFlit 3 rreq (m.toNat * 2 ^ 12)) })
    else
      let sent := groupBits (lag.map (·.1) ++ ch.map (·.1))
      let back := x.backlog &&& ~~~sent
      let more := ((List.range 32).filter (fun g => back.getLsbD g)).take (2 - total)
      let entries := lag.map (fun e => mkEntry true e.1 e.2) ++ ch.map (fun e => mkEntry false e.1 e.2)
        ++ more.map (fun g => mkEntry false g (sget 0 now g))
      let s2 := s1.modGol i (fun x => { x with backlog := back &&& ~~~(groupBits more) })
      match entries with
      | [] => s2.idleFlit i rreq
      | [a] => s2.modGol i (fun x => { x with out := some (mkFlit 1 rreq (a * 2 ^ 22)) })
      | a :: b :: _ => s2.modGol i (fun x => { x with out := some (mkFlit 2 rreq (a * 2 ^ 22 + b)) })

/-- FLIT_TRANSMIT: the flit of this frame is formed and goes onto the lanes (R448, R449, R455, R456, R459). -/
def execFlitTransmit (p : Fin 8) (s : State) : Host.Outcome State Fault Refusal :=
  .next (if s.golState p.val ≠ 2 ∨ !s.lanesOn then s else (s.golForm p).golLanes p.val)

/-! ## Reception -/

/-- The due frame of what a flit says of frame `f` (R457). -/
def State.golDue (s : State) (p f : Nat) : Nat := f + 40 + s.fld (aGl p 8) 7 0

/-- A flit is lost: every inbound group is stale from its due frame (R458). -/
def State.flitLost (s : State) (p snap : Nat) : State :=
  s.modGol p (fun x => { x with due := x.due ++ [⟨s.golDue p snap, snap, true, 0xFFFFFFFF, 0, 0⟩] })

/-- An UPDATE entry waits for its due frame (R457). -/
def State.takeEntry (s : State) (p snap e : Nat) : State :=
  let f := if bitOf e 21 then snap - 1 else snap
  let g := BitVec.ofNat 32 (2 ^ bitsOf e 20 16)
  s.modGol p (fun x => { x with due := x.due ++
    [(⟨s.golDue p f, snap, false, g, BitVec.ofNat 8 (bitsOf e 15 8), BitVec.ofNat 8 (bitsOf e 7 0)⟩ : GlEntry)] })

/-- Frames between a Gollet epoch's snapshot and its flit being ready: 39 + RAW (R463). -/
def State.golDepth (s : State) (p : Nat) : Nat := 39 + s.fld (aGl p 8) 15 8

/-- The counter value that an EPOCH flit's ready frame is to have (R463). -/
def State.golEpochAt (s : State) (p bits : Nat) : Nat :=
  (s.regN 0x0400001C / 2 ^ 12 * 2 ^ 44 + bits + s.golDepth p) % 2 ^ 64

/-- A frame number moved by a renumbering. -/
def moved (d : Int) (f : Nat) : Nat := ((f : Int) + d).toNat

/-- Frames to come that no rule names by number keep their distance when frames are renumbered: sleep and wake, writes
on their way, Gollet entries. What has passed is timed in ticks, and frame values that a host named keep their numbers
(R19, R27, R461; log entry 30). -/
def State.renumber (s : State) (d : Int) : State :=
  let m := moved d
  let mo (x : Option Nat) : Option Nat := x.map m
  { s with
    modes := { s.modes with
      sleepAt := mo s.modes.sleepAt, wakeAt := mo s.modes.wakeAt, recoverFrom := m s.modes.recoverFrom,
      shutdownAt := mo s.modes.shutdownAt, shutdownFrom := m s.modes.shutdownFrom },
    host := { s.host with
      lastStart := mo s.host.lastStart,
      records := s.host.records.map (fun j => { j with from_ := m j.from_ }),
      ports := s.host.ports.map (fun (p : Nat × Port) => (p.1, { p.2 with
        filterFrom := m p.2.filterFrom })) },
    clusters := s.clusters.map (fun (c : Nat × Cluster) => (c.1, { c.2 with
      port := c.2.port.map (fun j => { j with from_ := m j.from_ }),
      reads := c.2.reads.map (fun j => { j with from_ := m j.from_ }),
      stores := c.2.stores.map (fun t => { t with visible := m t.visible }) })),
    dwrites := s.dwrites.map (fun w => { w with due := m w.due }),
    gols := s.gols.map (fun (x : Nat × Gol) => (x.1, { x.2 with
      staleFrom := x.2.staleFrom.foldl (fun l e => sset 0 l e.1 (m e.2)) [],
      due := x.2.due.map (fun e => { e with due := m e.due, snap := m e.snap }) })),
    sync := { s.sync with
      outs := s.sync.outs.map m,
      edge := (((s.sync.edge : Int) + d) % 4).toNat } }

/-- This frame is numbered `n` from now on: the SYNC epoch (R461, R463, R481). A host access of the frame still meets
`SYNC.CTRL.ARM` as it was (`State.reloaded`; R539). -/
def State.reloadFrame (s : State) (n : Nat) : State :=
  let d : Int := (n : Int) - s.frame
  let s1 := s.renumber d
  let s2 := { s1 with
    frame := n, jumps := ((s.ticks, (s.ticks : Int) - n) :: s.jumps).take 2048,
    sync := { s1.sync with reloadAt := none } }
  let s3 := (s2.setFld 0x04000010 0 0 0).raise 0x11C 1
  let s4 := forEach (List.range 8) (fun p s =>
    s.setFld (aGl p 0xC) 21 16 (((s.fld (aGl p 0xC) 21 16 : Int) + d) % 33).toNat) s3
  s4.latchPair true

/-- An EPOCH flit: the epoch itself where one is armed on this port, else a comparison (R463). -/
def State.takeEpoch (s : State) (p bits : Nat) : State :=
  if s.fld 0x04000010 0 0 = 1 ∧ s.fld 0x04000010 7 4 = p + 1 then s.reloadFrame (s.golEpochAt p bits)
  else if s.fld 0x11C 1 1 = 1 then
    let own : Int := ((s.frame : Int) - (s.golDepth p : Int)) % (2 ^ 44 : Int)
    if own = (bits : Int) then s
    else (s.raise (aGl p 0xC) 6).record 0x22 (leBytes 1 p ++ leBytes 8 ((own - (bits : Int)) % (2 ^ 64 : Int)).toNat)
  else s

/-- A CAL flit: an exchange of the peer's is to be answered, or one of ours has come back (R453). -/
def State.takeCal (s : State) (p pay : Nat) : State :=
  let seq := BitVec.ofNat 8 (bitsOf pay 42 35)
  let x := s.gol p
  if !bitOf pay 43 then s.modGol p (fun x => { x with echo := some (seq, s.ticks) })
  else match x.calSent with
    | some f =>
      if !x.calOn ∨ seq ≠ x.calSeq then s
      else
        let m2 : Int := (s.ticks : Int) - f - bitsOf pay 34 27
        s.modGol p (fun x => { x with
          calLeft := x.calLeft - 1, calSent := none, calMax := max x.calMax ((m2 + 1) / 2) })
    | none => s

/-- FLIT_RECEIVE: a flit with snapshot frame `snap` is ready at its depth of 21 frames in this frame (R451,
R454, R457 to R460). -/
def execFlitReceive (p : Fin 8) (flit : BitVec 64) (snap : Nat) (s : State) :
    Host.Outcome State Fault Refusal :=
  .next (
    let i := p.val
    let f := flit.toNat
    let pay := bitsOf f 59 16
    let ty := bitsOf f 63 61
    if s.golState i ≠ 2 then s
    else if flitCrc f ≠ bitsOf f 15 0 ∨ ty = 7 then
      (((s.raise (aGl i 0xC) 4).count (aGl i 0x10) 1).flitLost i snap)
    else if snap + 39 + s.fld (aGl i 8) 7 0 < s.frame then
      (((s.raise (aGl i 0xC) 5).count (aGl i 0x14) 1).flitLost i snap)
    else
      let soon := match (s.gol i).refreshAt with
        | some r => decide (s.ticks < r + 128)
        | none => false
      let s1 := if bitOf f 60 && !soon then
          s.modGol i (fun x => { x with backlog := 0xFFFFFFFF, refreshAt := some s.ticks })
        else s
      match ty with
      | 1 => s1.takeEntry i snap (bitsOf pay 43 22)
      | 2 => (s1.takeEntry i snap (bitsOf pay 43 22)).takeEntry i snap (bitsOf pay 21 0)
      | 3 =>
        let first := if (snap + 32) % 33 = s.fld (aGl i 0xC) 21 16 then snap - 1 else snap
        let m : Word := BitVec.ofNat 32 (bitsOf pay 43 12)
        s1.modGol i (fun x => { x with due := x.due ++ [⟨s.golDue i first, snap, true, m, 0, 0⟩] })
      | 4 =>
        if 16 ≤ (s1.gol i).rxq.length then (s1.raise (aGl i 0xC) 8).count (aGl i 0x18) 1
        else s1.modGol i (fun x => { x with rxq := x.rxq ++
          [(BitVec.ofNat 8 (bitsOf pay 43 36), BitVec.ofNat 32 (bitsOf pay 35 4))] })
      | 5 => s1.takeEpoch i pay
      | 6 => s1.takeCal i pay
      | _ => s1)

/-- An entry takes effect in the D-bit space (R457), and clears a stale mark older than its snapshot
(R458). -/
def State.applyEntry (s : State) (p : Nat) (e : GlEntry) : State :=
  forEach ((List.range 32).filter (fun g => e.groups.getLsbD g)) (fun g s =>
    let clear := decide (sget 0 (s.gol p).staleFrom g < e.snap)
    forEach (List.range 8) (fun i s =>
      let d := inbound p g + i
      let old := s.dbit d
      s.storeDbit d { old with
        value := e.values.getLsbD i, valid := e.valid.getLsbD i, inRound := s.inRoundAt s.frame,
        tag := BitVec.ofNat 32 (s.roundAt s.frame), stale := old.stale && !clear }) s) s

/-- ENTRY_DUE: entries whose due frame has come take effect in ascending group number, and stale marks
begin (R457, R458). -/
def execEntryDue (p : Fin 8) (s : State) : Host.Outcome State Fault Refusal :=
  .next (
    let i := p.val
    let now := (s.gol i).due.filter (fun e => decide (e.due ≤ s.frame))
    let s1 := s.modGol i (fun x => { x with due := x.due.filter (fun e => decide (s.frame < e.due)) })
    let ups := sortBy (fun (e : GlEntry) => e.groups.toNat) (now.filter (fun e => !e.stale))
    let s2 := forEach ups (fun e s => s.applyEntry i e) s1
    forEach (now.filter GlEntry.stale) (fun e s => s.markStale i e.groups e.due) s2)

/-! ## Training, calibration and messages -/

/-- PORT_TRAIN: training brings the peer's DEV_ID and port number; a pair that is not the expected one
keeps the port in TRAIN (R449, R452). -/
def execPortTrain (p : Fin 8) (peerId : BitVec 16) (peerPort : Fin 8) (skip : Fin 33) (s : State) :
    Host.Outcome State Fault Refusal :=
  .next (
    let i := p.val
    if s.fld (aGl i 0) 0 0 = 0 ∨ !s.lanesOn ∨ s.golState i = 2 then s
    else if s.fld (aGl i 4) 15 0 = peerId.toNat ∧ s.fld (aGl i 4) 18 16 = peerPort.val then
      (((s.setFld (aGl i 0xC) 1 0 2).setFld (aGl i 0xC) 2 2 0).setFld (aGl i 0xC) 21 16 skip.val).modGol i
        (fun x => { x with
          last := s.outGroups i, prevChange := [], backlog := 0, echo := none, half := none, block := none,
          scr := (Config.scramblerSeed (2 * i) (s.moment s.ticks), Config.scramblerSeed (2 * i + 1) (s.moment s.ticks)) })
    else (s.setFld (aGl i 0xC) 1 0 1).setFld (aGl i 0xC) 2 2 1)

/-- BLOCK_LOCK_LOSS: the port returns to TRAIN (R452, R458). -/
def execBlockLockLoss (p : Fin 8) (s : State) : Host.Outcome State Fault Refusal :=
  .next (if s.golState p.val = 2 then s.golDown p.val 1 else s)

/-- A write of `GL.CTRL.EN` is in force: the port trains or is off (R452). -/
def State.golEnable (s : State) (p : Nat) : State :=
  if s.fld (aGl p 0) 0 0 = 0 then s.golDown p 0
  else if s.golState p = 0 then s.setFld (aGl p 0xC) 1 0 1 else s

/-- Calibration starts on a port that is UP (R453). -/
def State.golCal (s : State) (p : Nat) : State :=
  if s.golState p = 2 then
    s.modGol p (fun x => { x with calOn := true, calLeft := 1024, calSent := none, calMax := 0 })
  else s

/-- CAL_DONE: after 1,024 exchanges, `GL.LAT.RAW` and C take the measured latency (R453). -/
def execCalDone (p : Fin 8) (s : State) : Host.Outcome State Fault Refusal :=
  .next (
    let i := p.val
    let x := s.gol i
    if !x.calOn ∨ x.calLeft ≠ 0 then s
    else
      let raw := (x.calMax - 39).toNat
      let s1 := s.setFld (aGl i 8) 15 8 raw
      let s2 := (s1.setFld (aGl i 8) 7 0 (raw + s1.fld (aGl i 8) 19 16)).setFld (aGl i 0xC) 3 3 1
      s2.modGol i (fun x => { x with calOn := false }))

/-- A MSG is queued with the data held, or discarded where 16 wait (R460). -/
def State.golMsgTx (s : State) (p ch : Nat) : State :=
  if 16 ≤ (s.gol p).txq.length then s.raise (aGl p 0xC) 7
  else s.modGol p (fun x => { x with txq := x.txq ++ [(BitVec.ofNat 8 ch, s.reg (aGl p 0x20))] })

/-- A read of `GL.MSG_RX_DATA` removes the entry (R460). -/
def State.golMsgPop (s : State) (p : Nat) : State := s.modGol p (fun x => { x with rxq := x.rxq.drop 1 })

/-! ## SYNC (R461, R464) -/

/-- A pulse of SYNC_OUT is to rise in frame `e`; pulses that are over are forgotten (R464). -/
def State.syncPulse (s : State) (e : Nat) : State :=
  { s with sync := { s.sync with outs := s.sync.outs.filter (fun f => decide (s.frame < f + 4 ∧ f ≠ e)) ++ [e] } }

/-- SYNC_IN_PULSE: an armed pulse fixes the reload frame; any other is counted. In OUT_MODE 1 SYNC_OUT
follows for one REFCLK period from the next edge (R461, R464). -/
def execSyncInPulse (s : State) : Host.Outcome State Fault Refusal :=
  .next (
    if s.mode = .reset then s
    else
      let s0 := { s with sync := { s.sync with edge := s.frame % 4 } }
      let s1 := if s.fld 0x04000010 9 8 = 1 then
          s0.syncPulse (s.frame + 4)
        else s0
      if s.fld 0x04000010 0 0 = 0 then s1.count 0x04000020 1
      else if s.fld 0x04000010 7 4 = 0 ∧ s.sync.reloadAt = none then
        { s1 with sync := { s1.sync with reloadAt := some (s.frame + s.fld 0x04000014 15 0) } }
      else s1)

/-- EPOCH_RELOAD: the frame that would have the reload number takes `SYNC.LOAD` (R461). -/
def execEpochReload (s : State) : Host.Outcome State Fault Refusal :=
  .next (match s.sync.reloadAt with
    | some f => if f ≤ s.frame then s.reloadFrame (s.reg64 0x04000018) else s
    | none => s)

/-- A write of `SYNC.CTRL.GEN` = 1: in OUT_MODE 2 SYNC_OUT rises at the first REFCLK edge at least 8
frames on (R464). -/
def State.syncGenerate (s : State) : State :=
  if s.fld 0x04000010 9 8 = 2 then
    let f := s.frame + 8
    let e := f + (s.sync.edge + 4 - f % 4) % 4
    s.syncPulse e
  else s

end Sys2Proof.Machine
end

