-- ==== Sys2Proof/Machine/SeqArith.lean ====
section
/-!
DEFINITION. Tarfiger arithmetic and scratch instructions (R180, R182).
-/
namespace Sys2Proof.Machine

/-- An ALU instruction: gd takes the result, the flags follow it, issue goes on (R178, R180). -/
def State.alu (s : State) (q : Nat) (o : Alu) (f : Word → Word → AluOut) : State :=
  s.issue q (aluReads o) (fun s =>
    (s.modSeq q (fun x =>
      let r := f (x.get o.ga.val) (x.bOp o)
      (x.put o.gd.val r.r).flags r)).goNext q)

/-- LI: gd ← IMM. -/
def execLi (q : Fin 128) (gd : Fin 32) (imm : Word) (s : State) : Host.Outcome State Fault Refusal :=
  .next (s.issue q [] (fun s => (s.modSeq q (fun x => x.put gd.val imm)).goNext q))

/-- LUI: gd[31:16] ← IMM; gd[15:0] is kept, and so is read (R179). -/
def execLui (q : Fin 128) (gd : Fin 32) (imm : BitVec 16) (s : State) :
    Host.Outcome State Fault Refusal :=
  .next (s.issue q [gd.val] (fun s =>
    (s.modSeq q (fun x => x.put gd.val (imm ++ (x.get gd.val).setWidth 16))).goNext q))

/-- ADD. -/
def execAdd (q : Fin 128) (o : Alu) (s : State) : Host.Outcome State Fault Refusal :=
  .next (s.alu q o aluAdd)

/-- SUB. -/
def execSub (q : Fin 128) (o : Alu) (s : State) : Host.Outcome State Fault Refusal :=
  .next (s.alu q o aluSub)

/-- AND. -/
def execAnd (q : Fin 128) (o : Alu) (s : State) : Host.Outcome State Fault Refusal :=
  .next (s.alu q o aluAnd)

/-- OR. -/
def execOr (q : Fin 128) (o : Alu) (s : State) : Host.Outcome State Fault Refusal :=
  .next (s.alu q o aluOr)

/-- XOR. -/
def execXor (q : Fin 128) (o : Alu) (s : State) : Host.Outcome State Fault Refusal :=
  .next (s.alu q o aluXor)

/-- SHL. -/
def execShl (q : Fin 128) (o : Alu) (s : State) : Host.Outcome State Fault Refusal :=
  .next (s.alu q o aluShl)

/-- SHR, sign-filled when A = 1. -/
def execShr (q : Fin 128) (o : Alu) (arith : Bool) (s : State) : Host.Outcome State Fault Refusal :=
  .next (s.alu q o (aluShr arith))

/-- MUL16. -/
def execMul16 (q : Fin 128) (o : Alu) (s : State) : Host.Outcome State Fault Refusal :=
  .next (s.alu q o aluMul16)

/-- CMP: flags only. -/
def execCmp (q : Fin 128) (o : Alu) (s : State) : Host.Outcome State Fault Refusal :=
  .next (s.issue q (aluReads o) (fun s =>
    (s.modSeq q (fun x => x.flags (aluCmp (x.get o.ga.val) (x.bOp o)))).goNext q))

/-- The scratch word that sequencer `q` reads: its own latest write, or the shared word (R115). -/
def State.scratchSeen (s : State) (q w : Nat) : Word :=
  match (s.cl (q / 8)).stores.reverse.find? (fun t => t.seq = q ∧ t.word = w) with
  | some t => t.value
  | none => BitVec.ofNat 32 (s.memWord (aCl (q / 8) (0x40000 + 4 * w)))

/-- A scratch write of sequencer `q`: seen by itself at once and by the others after 1 to 8 frames, a
later write of the same word never before an earlier one (R115; log entry 12). -/
def State.scratchStore (s : State) (q w : Nat) (v : Word) : State :=
  let (k, s1) := s.fresh
  let at_ := s.frame + 1 + (Config.scratchDelay k).val
  let before := ((s.cl (q / 8)).stores.filter (fun t => t.seq = q ∧ t.word = w)).map Store.visible
  let vis := before.foldl max at_
  (s1.modCl (q / 8) (fun c => { c with stores := c.stores ++ [⟨q, w, v, vis⟩] })).modSeq q (fun x =>
    { x with lastStore := some (max vis (x.lastStore.getD 0)) })

/-- LDS: gd ← scratch word (ga + IMM) mod 16,384; the private range reads 0 and sets `SCR_RANGE` (R172,
R182). An uncorrectable error is a cluster fault. -/
def execLds (q : Fin 128) (gd ga : Fin 32) (imm : Word) (ecc : Ecc) (s : State) :
    Host.Outcome State Fault Refusal :=
  .next (s.issue q [ga.val] (fun s =>
    let w := ((s.seq q).get ga.val + imm).toNat % 16384
    if 15360 ≤ w then
      ((s.raise (aSeq q 8) 16).modSeq q (fun x =>
        { x.put gd.val 0 with ldsReg := some gd.val })).goNext q
    else if ecc = .uncorrectable then s.eccFault (some (q.val / 8)) 4 w
    else
      let v := s.scratchSeen q w
      (s.modSeq q (fun x => { x.put gd.val v with ldsReg := some gd.val })).goNext q))

/-- STS: scratch word (ga + IMM) mod 16,384 ← gb; the private range discards it and sets `SCR_RANGE`. -/
def execSts (q : Fin 128) (ga gb : Fin 32) (imm : Word) (s : State) :
    Host.Outcome State Fault Refusal :=
  .next (s.issue q [ga.val, gb.val] (fun s =>
    let x := s.seq q
    let w := (x.get ga.val + imm).toNat % 16384
    if 15360 ≤ w then (s.raise (aSeq q 8) 16).goNext q
    else (s.scratchStore q w (x.get gb.val)).goNext q))

end Sys2Proof.Machine
end

