-- ==== Sys2Proof/Machine/SeqControl.lean ====
section
/-!
DEFINITION. Tarfiger control, timeline, fence and notification instructions.
-/
namespace Sys2Proof.Machine

/-- NOP. -/
def execNop (q : Fin 128) (s : State) : Host.Outcome State Fault Refusal :=
  .next (s.issue q [] (fun s => s.goNext q))

/-- HALT: issue stops and the pc stays at the HALT word (R145). -/
def execHalt (q : Fin 128) (s : State) : Host.Outcome State Fault Refusal :=
  .next (s.issue q [] (fun s => s.haltSeq q))

/-- A word whose opcode the map does not list halts its sequencer as HALT does (R176). -/
def execUndefinedOpcode (q : Fin 128) (s : State) : Host.Outcome State Fault Refusal :=
  .next (s.issue q [] (fun s => s.haltSeq q))

/-- NOTIFY: one notification record; it stalls until 8,192 frames after the last (R200). -/
def execNotify (q : Fin 128) (code : Word) (s : State) : Host.Outcome State Fault Refusal :=
  .next (s.issue q [] (fun s =>
    let x := s.seq q
    let early := match x.lastNotify with
      | some f => decide (s.ticks < f + 8192)
      | none => false
    if early then s.modSeq q (fun x => { x with nextIssue := s.frame + (x.lastNotify.getD 0 + 8192 - s.ticks) })
    else
      let r := [5, 2] ++ leBytes 1 q.val ++ [0] ++ leBytes 4 code.toNat ++ leBytes 8 s.frame
        ++ leBytes 8 x.tl.toNat ++ List.replicate 8 0
      ((s.emit true r).modSeq q (fun x => { x with lastNotify := some s.ticks })).goNext q))

/-- JMP: to ADDR, or to gs[15:0] when R = 1 (R185). -/
def execJmp (q : Fin 128) (gs : Fin 32) (r : Bool) (addr : BitVec 16) (s : State) :
    Host.Outcome State Fault Refusal :=
  .next (s.issue q (if r then [gs.val] else []) (fun s => s.goto q ((s.seq q).half r gs addr) 2))

/-- CALL: pushes a call entry, then as JMP; a full stack is `STACK_ERR` (R146, R183). -/
def execCall (q : Fin 128) (gs : Fin 32) (r : Bool) (addr : BitVec 16) (s : State) :
    Host.Outcome State Fault Refusal :=
  .next (s.issue q (if r then [gs.val] else []) (fun s =>
    let x := s.seq q
    if 8 ≤ x.stack.length then s.stackErr q
    else (s.modSeq q (fun x => { x with stack := .call (x.pc + 1) :: x.stack })).goto q
      (x.half r gs addr) 2))

/-- RET: pops a call entry and goes to its return address (R183). -/
def execRet (q : Fin 128) (s : State) : Host.Outcome State Fault Refusal :=
  .next (s.issue q [] (fun s =>
    match (s.seq q).stack with
    | .call back :: rest => (s.modSeq q (fun x => { x with stack := rest })).goto q back 2
    | _ => s.stackErr q))

/-- LOOP: a count of 0 skips to ADDR + 1; otherwise a loop entry is pushed (R183, R184). -/
def execLoop (q : Fin 128) (gs : Fin 32) (r : Bool) (cnt addr : BitVec 16) (s : State) :
    Host.Outcome State Fault Refusal :=
  .next (s.issue q (if r then [gs.val] else []) (fun s =>
    let x := s.seq q
    let n := if r then (x.get gs.val).toNat else cnt.toNat
    if n = 0 then s.goto q (addr + 1) 2
    else if 8 ≤ x.stack.length then s.stackErr q
    else (s.modSeq q (fun x => { x with stack := .loop (x.pc + 1) addr n :: x.stack })).goNext q))

/-- LOOP.E: the count of the top loop entry falls by one; back to the body, or on when it reaches zero
(R183, R184). -/
def execLoopE (q : Fin 128) (s : State) : Host.Outcome State Fault Refusal :=
  .next (s.issue q [] (fun s =>
    match (s.seq q).stack with
    | .loop body closing n :: rest =>
      if 1 < n then
        (s.modSeq q (fun x => { x with stack := .loop body closing (n - 1) :: rest })).goto q body 1
      else (s.modSeq q (fun x => { x with stack := rest })).goNext q
    | _ => s.stackErr q))

/-- BRG: branches when its condition holds (R181). -/
def execBrg (q : Fin 128) (cond : Fin 16) (addr : BitVec 16) (s : State) :
    Host.Outcome State Fault Refusal :=
  .next (s.issue q [] (fun s =>
    let x := s.seq q
    if condHolds cond.val x.z x.n x.c then s.goto q addr 2 else s.goNext q))

/-- A waiting BRD or WAITD is evaluated in this frame: it resolves on a valid D-bit, or at its deadline
with `LATE_DBIT`; the chosen path issues 2 frames later (R164, R166 to R168, R185). Until then the pc, as `SEQ.PC` reads
(R174), stays at the waiting word, also while a macro-op waits (DESIGN CHOICE, log entry 69). -/
def State.evalWait (s : State) (q : Nat) : State :=
  match (s.seq q).wait with
  | .dbit d rc deadline branch =>
    let ready := s.dbitReady d rc
    let late := decide (deadline ≤ (s.frame : Int))
    if ready || late then
      let s1 := if ready then s else s.seqCond .lateDbit q noTarget noFrame
      let taken := match branch with
        | some (sense, addr) => if ready && (s.dbitSeen d).value == sense then some addr else none
        | none => none
      s1.modSeq q (fun x => { x with
        wait := .none, state := 1, nextIssue := s.frame + 2,
        pc := match taken with
          | some a => a
          | none => x.pc + 1 })
    else s.modSeq q (fun x => { x with state := 4 })
  | _ => s

/-- BRD: waits for its D-bit until TL − 26, from its issue frame on (R166, R185). -/
def execBrd (q : Fin 128) (dbit : Fin 8192) (sense rc : Bool) (addr : BitVec 16) (s : State) :
    Host.Outcome State Fault Refusal :=
  .next (s.issue q [] (fun s =>
    (s.modSeq q (fun x => { x with
      wait := .dbit dbit.val rc ((x.tl.toNat : Int) - 26) (some (sense, addr)) })).evalWait q))

/-- WAITD: as BRD, and goes on either way (R197). -/
def execWaitd (q : Fin 128) (dbit : Fin 8192) (rc : Bool) (s : State) :
    Host.Outcome State Fault Refusal :=
  .next (s.issue q [] (fun s =>
    (s.modSeq q (fun x => { x with
      wait := .dbit dbit.val rc ((x.tl.toNat : Int) - 26) none })).evalWait q))

/-- A waiting BRD or WAITD of sequencer `q` resolves, or waits on (R166). -/
def execBrdResolution (q : Fin 128) (s : State) : Host.Outcome State Fault Refusal :=
  .next (if s.mode = .run ∧ (s.seq q).state = 4 then s.evalWait q else s)

/-- WAIT: TL advances by N, or by gs when R = 1 (R186), modulo 2^64 (DESIGN CHOICE, log entry 61). -/
def execWait (q : Fin 128) (gs : Fin 32) (r : Bool) (n : Word) (s : State) :
    Host.Outcome State Fault Refusal :=
  .next (s.issue q (if r then [gs.val] else []) (fun s =>
    (s.modSeq q (fun x => { x with tl := x.tl + (x.word r gs n).setWidth 64 })).goNext q))

/-- WAITUNTIL: TL moves forward to tx; a frame before TL sets `TL_BACKWARD` and leaves it (R149). -/
def execWaituntil (q : Fin 128) (tx : Fin 4) (s : State) : Host.Outcome State Fault Refusal :=
  .next (s.issue q [] (fun s =>
    let x := s.seq q
    let t := x.getT tx.val
    if t.toNat < x.tl.toNat then (s.raise (aSeq q 8) 14).goNext q
    else (s.modSeq q (fun x => { x with tl := t })).goNext q))

/-- SYNCR: TL moves to the smallest unskipped boundary at or after it (R169). -/
def execSyncr (q : Fin 128) (s : State) : Host.Outcome State Fault Refusal :=
  .next (s.issue q [] (fun s =>
    if s.roundLen = 0 then s.goNext q
    else
      let b := s.syncrFrom (s.seq q).tl.toNat
      ((s.noteSyncr b).modSeq q (fun x => { x with tl := BitVec.ofNat 64 b })).goNext q))

/-- TLGET: tx takes its source plus OFS, modulo 2^64 (R186). -/
def execTlget (q : Fin 128) (tx : Fin 4) (src : Fin 4) (gs : Fin 32) (ofs : Word) (s : State) :
    Host.Outcome State Fault Refusal :=
  .next (s.issue q (if src = 3 then [gs.val, (gs.val + 1) % 32] else []) (fun s =>
    let x := s.seq q
    let base : Long := match src.val with
      | 0 => x.tl
      | 1 => BitVec.ofNat 64 s.frame
      | 2 => x.getT tx.val
      | _ => x.get ((gs.val + 1) % 32) ++ x.get gs.val
    (s.modSeq q (fun x => x.putT tx.val (base + ofs.signExtend 64))).goNext q))

/-- A fence that holds issue until frame `f` has passed (R199). -/
def State.fenceTo (s : State) (q f : Nat) : State :=
  s.modSeq q (fun x => { x with
    pc := x.pc + 1, nextIssue := max s.frame f + 1,
    state := if s.frame < f then 5 else 1, wait := if s.frame < f then .fence else .none })

/-- FENCE.T: until every timed event issued has reached its queue (R117). -/
def execFenceT (q : Fin 128) (s : State) : Host.Outcome State Fault Refusal :=
  .next (s.issue q [] (fun s => s.fenceTo q (match (s.seq q).lastTimed with
    | some f => f + 4
    | none => 0)))

/-- FENCE.M: until every scratch write of the sequencer is visible to all (R115). -/
def execFenceM (q : Fin 128) (s : State) : Host.Outcome State Fault Refusal :=
  .next (s.issue q [] (fun s => s.fenceTo q ((s.seq q).lastStore.getD 0)))

/-- FENCE.D: until every published D-bit is valid at the queues and sequencers (R116). -/
def execFenceD (q : Fin 128) (s : State) : Host.Outcome State Fault Refusal :=
  .next (s.issue q [] (fun s => s.fenceTo q (match (s.seq q).lastPublish with
    | some f => f + 6
    | none => 0)))

/-- FENCE.H: the partial frame of every stream goes out with this frame's records in it, and before any frame of later
records; issue is not held (R118, R199). -/
def execFenceH (q : Fin 128) (s : State) : Host.Outcome State Fault Refusal :=
  .next (s.issue q [] (fun s => { s with host := { s.host with fenceH := true } }.goNext q))

/-- PUBLISH: one of the sequencer's eight D-bits takes a value, or loses its valid flag, 4 frames later
(R196). -/
def execPublish (q : Fin 128) (j : Fin 8) (v r : Bool) (gs : Fin 32) (inv : Bool) (s : State) :
    Host.Outcome State Fault Refusal :=
  .next (s.issue q (if r && !inv then [gs.val] else []) (fun s =>
    let x := s.seq q
    let val := if r then (x.get gs.val).getLsbD 0 else v
    let s1 : State :=
      { s with dwrites := s.dwrites ++ [⟨s.frame + 4, 7168 + 8 * q.val + j.val, val, inv⟩] }
    (s1.modSeq q (fun x => { x with lastPublish := some s.frame })).goNext q))

/-- A commit of group `g` as a CMT of sequencer `q` with TL `tl`: accepted for its effective frame, or
dropped with `TARGET_REFUSED` (R124, R198). -/
def State.cmtGroup (s : State) (q : Nat) (g : Word) (tl : Nat) : State :=
  if groupListed g.toNat ∧ groupCluster g.toNat = some (q / 8) then
    let f := if tl ≤ s.frame + 4 then s.frame + 5 else tl
    { s with
      commits := s.commits ++ [⟨f, [g], none, q, s.host.order⟩],
      host := { s.host with order := s.host.order + 1 } }
  else s.seqCond .targetRefused q noTarget noFrame

/-- CMT (R198). -/
def execCmt (q : Fin 128) (r : Bool) (gs : Fin 32) (gid : Word) (s : State) :
    Host.Outcome State Fault Refusal :=
  .next (s.issue q (if r then [gs.val] else []) (fun s =>
    let x := s.seq q
    (s.cmtGroup q (x.word r gs gid) x.tl.toNat).goNext q))

end Sys2Proof.Machine
end

