-- ==== Sys2Proof/Machine/SeqDecode.lean ====
section
/-!
DEFINITION. The Tarfiger instruction that a program word spells (R175, R176).
-/
namespace Sys2Proof.Machine

/-- Bits of a word as a number below `n`. -/
def fieldFin (n : Nat) [NeZero n] (w hi lo : Nat) : Fin n := Fin.ofNat n (bitsOf w hi lo)

/-- Bits of a word as a bit vector. -/
def fieldBv (w hi lo : Nat) : BitVec (hi + 1 - lo) := BitVec.ofNat _ (bitsOf w hi lo)

/-- The operands of an arithmetic word (R175). -/
def decodeAlu (w : Nat) : Alu :=
  ⟨fieldFin 32 w 55 51, fieldFin 32 w 50 46, fieldFin 32 w 45 41, bitOf w 40, fieldBv w 31 0⟩

/-- The operands of a macro-op word (R201); `hi` is the top bit of ARG. -/
def decodeMacro (w hi : Nat) : MacroOp :=
  ⟨BitVec.ofNat 8 (bitsOf w hi 48), fieldFin 32 w 47 43, fieldBv w 31 0⟩

/-- The instruction of sequencer `q` that word `w` spells: the opcode in [63:56], fields as the opcode map
gives them (R175); an unlisted opcode is the instruction of R176. -/
def decodeSeq (q : Fin 128) (w : Nat) : Instr :=
  match bitsOf w 63 56 with
  | 0x00 => .nop q
  | 0x01 => .halt q
  | 0x02 => .notify q (fieldBv w 31 0)
  | 0x10 => .jmp q (fieldFin 32 w 51 47) (bitOf w 46) (fieldBv w 15 0)
  | 0x11 => .call q (fieldFin 32 w 51 47) (bitOf w 46) (fieldBv w 15 0)
  | 0x12 => .ret q
  | 0x13 => .loop q (fieldFin 32 w 51 47) (bitOf w 46) (fieldBv w 31 16) (fieldBv w 15 0)
  | 0x14 => .loopE q
  | 0x15 => .brg q (fieldFin 16 w 55 52) (fieldBv w 15 0)
  | 0x16 => .brd q (fieldFin 8192 w 47 35) (bitOf w 34) (bitOf w 33) (fieldBv w 15 0)
  | 0x20 => .li q (fieldFin 32 w 55 51) (fieldBv w 31 0)
  | 0x21 => .lui q (fieldFin 32 w 55 51) (fieldBv w 15 0)
  | 0x22 => .add q (decodeAlu w)
  | 0x23 => .sub q (decodeAlu w)
  | 0x24 => .and q (decodeAlu w)
  | 0x25 => .or q (decodeAlu w)
  | 0x26 => .xor q (decodeAlu w)
  | 0x27 => .shl q (decodeAlu w)
  | 0x28 => .shr q (decodeAlu w) (bitOf w 39)
  | 0x29 => .mul16 q (decodeAlu w)
  | 0x2A => .cmp q (decodeAlu w)
  | 0x2C => .lds q (fieldFin 32 w 55 51) (fieldFin 32 w 50 46) (fieldBv w 31 0) .clean
  | 0x2D => .sts q (fieldFin 32 w 50 46) (fieldFin 32 w 45 41) (fieldBv w 31 0)
  | 0x30 => .wait q (fieldFin 32 w 51 47) (bitOf w 46) (fieldBv w 31 0)
  | 0x31 => .waituntil q (fieldFin 4 w 49 48)
  | 0x32 => .syncr q
  | 0x33 => .tlget q (fieldFin 4 w 49 48) (fieldFin 4 w 47 46) (fieldFin 32 w 45 41) (fieldBv w 31 0)
  | 0x40 => .play q ⟨fieldBv w 55 48, fieldBv w 47 32, fieldFin 32 w 31 27, bitOf w 26, fieldFin 32 w 25 21⟩
  | 0x41 => .cplay q
      { tgt := fieldBv w 55 48, dbit := fieldFin 8192 w 47 35, dflt := bitOf w 34, rc := bitOf w 33,
        pf := fieldFin 4 w 32 31, n0 := bitOf w 30, n1 := bitOf w 29, fs0 := fieldFin 32 w 28 24,
        fs1 := fieldFin 32 w 23 19, gs := fieldFin 32 w 18 14, gp := fieldFin 32 w 13 9 }
  | 0x42 => .flux q ⟨fieldBv w 55 48, fieldBv w 47 32, fieldBv w 31 16, bitOf w 15, fieldFin 32 w 14 10⟩
  | 0x43 => .probe q
      { tgt := fieldBv w 55 48, seg := fieldBv w 47 32, fs := fieldFin 32 w 31 27, r := bitOf w 26,
        gs := fieldFin 32 w 25 21, ao := bitOf w 20, amp := fieldBv w 15 0 }
  | 0x44 => .acquire q
      { tgt := fieldBv w 55 48, len := fieldBv w 47 34, recd := bitOf w 33, rd := bitOf w 32,
        r := bitOf w 29, gs := fieldFin 32 w 28 24 }
  | 0x45 => .mark q (fieldBv w 55 48) (fieldBv w 47 32)
  | 0x48 => .setf q (fieldBv w 55 48) (fieldFin 32 w 47 43) (fieldFin 32 w 42 38)
  | 0x49 => .vz q (fieldBv w 55 48) (fieldFin 32 w 47 43) (bitOf w 42) (fieldFin 32 w 41 37) (fieldBv w 31 0)
  | 0x4A => .phrst q (fieldBv w 55 48) (fieldFin 32 w 47 43) (bitOf w 42)
  | 0x50 => .publish q (fieldFin 8 w 50 48) (bitOf w 47) (bitOf w 46) (fieldFin 32 w 45 41) (bitOf w 40)
  | 0x51 => .waitd q (fieldFin 8192 w 47 35) (bitOf w 33)
  | 0x58 => .cmt q (bitOf w 46) (fieldFin 32 w 45 41) (fieldBv w 31 0)
  | 0x60 => .fenceT q
  | 0x61 => .fenceM q
  | 0x62 => .fenceD q
  | 0x63 => .fenceH q
  | 0x70 => .meas q (decodeMacro w 55)
  | 0x71 => .round q (decodeMacro w 55)
  | 0x72 => .trackwin q (decodeMacro w 55)
  | 0x73 => .ucall q (decodeMacro w 54)
  | _ => .undefinedOpcode q

/-! ## The word an instruction is written as (R175) -/

/-- A field of a word: its value at its lowest bit. -/
def place (lo v : Nat) : Nat := v * 2 ^ lo

/-- The fields of an arithmetic word (R175). -/
def encodeAlu (o : Alu) : Nat :=
  place 51 o.gd.val + place 46 o.ga.val + place 41 o.gb.val + place 40 (b2n o.useImm) + o.imm.toNat

/-- The fields of a macro-op word (R201). -/
def encodeMacro (o : MacroOp) : Nat := place 48 o.arg.toNat + place 43 o.gs.val + o.imm.toNat

/-- The operand fields of a jump: gs, R and ADDR (R175). -/
def encodeJump (gs : Fin 32) (r : Bool) (addr : BitVec 16) : Nat :=
  place 47 gs.val + place 46 (b2n r) + addr.toNat

/-- The word of a Tarfiger instruction, reserved bits 0 (R175); none for every other row. The word of an
unlisted opcode is none of these. -/
def encodeSeq (i : Instr) : Option Nat :=
  match i with
  | .nop _ => some 0
  | .halt _ => some (place 56 0x01)
  | .notify _ code => some (place 56 0x02 + code.toNat)
  | .jmp _ gs r addr => some (place 56 0x10 + encodeJump gs r addr)
  | .call _ gs r addr => some (place 56 0x11 + encodeJump gs r addr)
  | .ret _ => some (place 56 0x12)
  | .loop _ gs r cnt addr => some (place 56 0x13 + encodeJump gs r addr + place 16 cnt.toNat)
  | .loopE _ => some (place 56 0x14)
  | .brg _ cond addr => some (place 56 0x15 + place 52 cond.val + addr.toNat)
  | .brd _ d sense rc addr =>
    some (place 56 0x16 + place 35 d.val + place 34 (b2n sense) + place 33 (b2n rc) + addr.toNat)
  | .li _ gd imm => some (place 56 0x20 + place 51 gd.val + imm.toNat)
  | .lui _ gd imm => some (place 56 0x21 + place 51 gd.val + imm.toNat)
  | .add _ o => some (place 56 0x22 + encodeAlu o)
  | .sub _ o => some (place 56 0x23 + encodeAlu o)
  | .and _ o => some (place 56 0x24 + encodeAlu o)
  | .or _ o => some (place 56 0x25 + encodeAlu o)
  | .xor _ o => some (place 56 0x26 + encodeAlu o)
  | .shl _ o => some (place 56 0x27 + encodeAlu o)
  | .shr _ o a => some (place 56 0x28 + encodeAlu o + place 39 (b2n a))
  | .mul16 _ o => some (place 56 0x29 + encodeAlu o)
  | .cmp _ o => some (place 56 0x2A + encodeAlu o)
  | .lds _ gd ga imm _ => some (place 56 0x2C + place 51 gd.val + place 46 ga.val + imm.toNat)
  | .sts _ ga gb imm => some (place 56 0x2D + place 46 ga.val + place 41 gb.val + imm.toNat)
  | .wait _ gs r n => some (place 56 0x30 + place 47 gs.val + place 46 (b2n r) + n.toNat)
  | .waituntil _ tx => some (place 56 0x31 + place 48 tx.val)
  | .syncr _ => some (place 56 0x32)
  | .tlget _ tx src gs ofs =>
    some (place 56 0x33 + place 48 tx.val + place 46 src.val + place 41 gs.val + ofs.toNat)
  | .play _ o => some (place 56 0x40 + place 48 o.tgt.toNat + place 32 o.seg.toNat + place 27 o.fs.val
      + place 26 (b2n o.r) + place 21 o.gs.val)
  | .cplay _ o => some (place 56 0x41 + place 48 o.tgt.toNat + place 35 o.dbit.val + place 34 (b2n o.dflt)
      + place 33 (b2n o.rc) + place 31 o.pf.val + place 30 (b2n o.n0) + place 29 (b2n o.n1)
      + place 24 o.fs0.val + place 19 o.fs1.val + place 14 o.gs.val + place 9 o.gp.val)
  | .flux _ o => some (place 56 0x42 + place 48 o.tgt.toNat + place 32 o.seg.toNat
      + place 16 o.scale.toNat + place 15 (b2n o.r) + place 10 o.gs.val)
  | .probe _ o => some (place 56 0x43 + place 48 o.tgt.toNat + place 32 o.seg.toNat + place 27 o.fs.val
      + place 26 (b2n o.r) + place 21 o.gs.val + place 20 (b2n o.ao) + o.amp.toNat)
  | .acquire _ o => some (place 56 0x44 + place 48 o.tgt.toNat + place 34 o.len.toNat
      + place 33 (b2n o.recd) + place 32 (b2n o.rd) + place 29 (b2n o.r) + place 24 o.gs.val)
  | .mark _ tgt w => some (place 56 0x45 + place 48 tgt.toNat + place 32 w.toNat)
  | .setf _ tgt fs gs => some (place 56 0x48 + place 48 tgt.toNat + place 43 fs.val + place 38 gs.val)
  | .vz _ tgt fs r gs ph => some (place 56 0x49 + place 48 tgt.toNat + place 43 fs.val
      + place 42 (b2n r) + place 37 gs.val + ph.toNat)
  | .phrst _ tgt fs all => some (place 56 0x4A + place 48 tgt.toNat + place 43 fs.val + place 42 (b2n all))
  | .publish _ j v r gs inv => some (place 56 0x50 + place 48 j.val + place 47 (b2n v) + place 46 (b2n r)
      + place 41 gs.val + place 40 (b2n inv))
  | .waitd _ d rc => some (place 56 0x51 + place 35 d.val + place 33 (b2n rc))
  | .cmt _ r gs gid => some (place 56 0x58 + place 46 (b2n r) + place 41 gs.val + gid.toNat)
  | .fenceT _ => some (place 56 0x60)
  | .fenceM _ => some (place 56 0x61)
  | .fenceD _ => some (place 56 0x62)
  | .fenceH _ => some (place 56 0x63)
  | .meas _ o => some (place 56 0x70 + encodeMacro o)
  | .round _ o => some (place 56 0x71 + encodeMacro o)
  | .trackwin _ o => some (place 56 0x72 + encodeMacro o)
  | .ucall _ o => if o.arg.toNat < 128 then some (place 56 0x73 + encodeMacro o) else none
  | _ => none

end Sys2Proof.Machine
end

