-- ==== Sys2Proof/Machine/SeqTimed.lean ====
section
/-!
DEFINITION. Tarfiger play-class and phase-class instructions (R187 to R194).
-/
namespace Sys2Proof.Machine

/-! ## The event each stamps, from the registers it reads -/

/-- PLAY (R187). -/
def playKind (o : PlayOp) (x : Seq) : EvKind := .play (x.half o.r o.gs o.seg).toNat o.fs.val

/-- FLUX (R188). -/
def fluxKind (o : FluxOp) (x : Seq) : EvKind := .flux (x.half o.r o.gs o.seg).toNat o.scale

/-- PROBE (R189). -/
def probeKind (o : ProbeOp) (x : Seq) : EvKind :=
  .probe (x.half o.r o.gs o.seg).toNat o.fs.val o.ao o.amp

/-- ACQUIRE: a length above 8,192 is taken as 8,192 (R190). -/
def acquireKind (o : AcquireOp) (x : Seq) : EvKind :=
  .acquire (min 8192 (if o.r then (x.get o.gs.val).toNat else o.len.toNat)) o.recd o.rd

/-- CPLAY: both alternatives go into one entry (R163, R192). -/
def cplayKind (o : CplayOp) (x : Seq) : EvKind := .cplay
  { dbit := o.dbit.val, dflt := o.dflt, rc := o.rc, pf := o.pf.val,
    qubit := (x.get o.gp.val).toNat % 1024, n0 := o.n0, n1 := o.n1,
    seg0 := (x.get o.gs.val).toNat % 65536, seg1 := (x.get o.gs.val).toNat / 65536,
    fs0 := o.fs0.val, fs1 := o.fs1.val, chosen := none }

/-- SETF: the word {g(s+1)[15:0], gs} (R193). -/
def setfKind (fs gs : Fin 32) (x : Seq) : EvKind :=
  .setf fs.val ((x.get ((gs.val + 1) % 32)).setWidth 16 ++ x.get gs.val)

/-- VZ (R194). -/
def vzKind (fs : Fin 32) (r : Bool) (gs : Fin 32) (ph : Word) (x : Seq) : EvKind :=
  .vz fs.val (x.word r gs ph)

/-- The target and event of a timed instruction; none for every other instruction. -/
def timedOf (i : Instr) : Option (BitVec 8 × (Seq → EvKind)) :=
  match i with
  | .play _ o => some (o.tgt, playKind o)
  | .cplay _ o => some (o.tgt, cplayKind o)
  | .flux _ o => some (o.tgt, fluxKind o)
  | .probe _ o => some (o.tgt, probeKind o)
  | .acquire _ o => some (o.tgt, acquireKind o)
  | .mark _ t w => some (t, fun _ => .mark w.toNat)
  | .setf _ t fs gs => some (t, setfKind fs gs)
  | .vz _ t fs r gs ph => some (t, vzKind fs r gs ph)
  | .phrst _ t fs all => some (t, fun _ => .phrst fs.val all)
  | _ => none

/-! ## The instructions -/

/-- PLAY. -/
def execPlay (q : Fin 128) (o : PlayOp) (s : State) : Host.Outcome State Fault Refusal :=
  .next (s.timed q o.tgt (if o.r then [o.gs.val] else []) (playKind o))

/-- FLUX. -/
def execFlux (q : Fin 128) (o : FluxOp) (s : State) : Host.Outcome State Fault Refusal :=
  .next (s.timed q o.tgt (if o.r then [o.gs.val] else []) (fluxKind o))

/-- PROBE. -/
def execProbe (q : Fin 128) (o : ProbeOp) (s : State) : Host.Outcome State Fault Refusal :=
  .next (s.timed q o.tgt (if o.r then [o.gs.val] else []) (probeKind o))

/-- ACQUIRE. -/
def execAcquire (q : Fin 128) (o : AcquireOp) (s : State) : Host.Outcome State Fault Refusal :=
  .next (s.timed q o.tgt (if o.r then [o.gs.val] else []) (acquireKind o))

/-- MARK (R191). -/
def execMark (q : Fin 128) (tgt : BitVec 8) (width : BitVec 16) (s : State) :
    Host.Outcome State Fault Refusal :=
  .next (s.timed q tgt [] (fun _ => .mark width.toNat))

/-- CPLAY. With PF = 0b00 gp counts as read for the interlock of R179 too (DESIGN CHOICE, log entry 61). -/
def execCplay (q : Fin 128) (o : CplayOp) (s : State) : Host.Outcome State Fault Refusal :=
  .next (s.timed q o.tgt [o.gs.val, o.gp.val] (cplayKind o))

/-- SETF. -/
def execSetf (q : Fin 128) (tgt : BitVec 8) (fs gs : Fin 32) (s : State) :
    Host.Outcome State Fault Refusal :=
  .next (s.timed q tgt [gs.val, (gs.val + 1) % 32] (setfKind fs gs))

/-- VZ. -/
def execVz (q : Fin 128) (tgt : BitVec 8) (fs : Fin 32) (r : Bool) (gs : Fin 32) (ph : Word)
    (s : State) : Host.Outcome State Fault Refusal :=
  .next (s.timed q tgt (if r then [gs.val] else []) (vzKind fs r gs ph))

/-- PHRST (R194). -/
def execPhrst (q : Fin 128) (tgt : BitVec 8) (fs : Fin 32) (all : Bool) (s : State) :
    Host.Outcome State Fault Refusal :=
  .next (s.timed q tgt [] (fun _ => .phrst fs.val all))

end Sys2Proof.Machine
end

