-- ==== Sys2Proof/Machine/Shadow.lean ====
section
/-!
DEFINITION. Writes to the shadows of coherence-group members (R11, R121, R125) and their checks against
the shadow as it stands after the write (R311, R352, R372, R492).
-/
namespace Sys2Proof.Machine

/-- Whether a field is a group member. -/
def Field.isShadow (f : Field) : Bool :=
  match f.acc with
  | .sh _ => true
  | _ => false

/-- `old` with the bits of `fs` taken from `v`. -/
def mergeFields (fs : List Field) (old v : Nat) : Nat :=
  fs.foldl (fun n f => withBits n f.hi f.lo (bitsOf v f.hi f.lo)) old

/-- A word is written to its shadow: only member fields change, and the member counts as written (R121). -/
def State.shadowWrite (s : State) (l : Loc) (a : Nat) (v : Word) : State :=
  let new := mergeFields (l.row.fields.filter Field.isShadow) (s.shadowWord a).toNat v.toNat
  { s with
    shadow := sset (resetWord a) s.shadow a (BitVec.ofNat 32 new),
    dirty := if s.dirty.contains a then s.dirty else a :: s.dirty }

/-- What a write refuses when `zero` or `range` holds; a zero case comes first. -/
def refuseIf (zero range : Bool) : Option Status :=
  if zero then some .zeroRefused else if range then some .rangeRefused else none

/-- The refusal that the shadow of group `g` meets as it stands, if any. -/
def State.shadowBad (s : State) (g : Nat) : Option Status :=
  let i := g % 2 ^ 24
  let w (a : Nat) : Nat := (s.shadowWord a).toNat
  match g / 2 ^ 24 with
  | 0x09 =>
    let step := w (aSlot i 0x10)
    let int := w (aSlot i 0x14)
    let nw := bitsOf int 12 0
    refuseIf (bitsOf (w (aSlot i 0xC)) 1 0 = 0 || step = 0 || (nw = 0 && !bitOf int 24))
      (decide (step < 0x04000000) || decide (4096 < nw))
  | 0x0C =>
    let cfg := w (0x60010000 + 0x40 * i)
    let count := bitsOf cfg 12 8
    let level := bitsOf cfg 6 4
    refuseIf (bitOf cfg 31 && (count = 0 || level = 0)) (decide (16 < count) || decide (4 < level))
  | 0x0D => refuseIf (bitsOf (w 0x60000000) 5 4 = 0) false
  | 0x0E =>
    let cfg := w (aBias i 0)
    let period := bitsOf (w (aBias i 8)) 23 0
    refuseIf (period = 0 || (bitOf cfg 4 && bitsOf (w (aBias i 0x10)) 19 0 = 0))
      (decide (period < 1000) || decide (period ≤ bitsOf (w (aBias i 0xC)) 23 0) || bitsOf cfg 1 0 = 3)
  | _ => none

end Sys2Proof.Machine
end

