-- ==== Sys2Proof/Machine/MicroCore.lean ====
section
/-!
DEFINITION. What every routine of a microengine shares: its registers (R397, R398), the pending set and its
commit (R409 to R412), abandonment (R413 to R415), stalls (R408) and the macro-ops that request it (R201).
-/
namespace Sys2Proof.Machine

/-! ## Registers (R397) -/

/-- Working register `i`; w0 reads 0. -/
def MeRegs.get (r : MeRegs) (i : Nat) : Word := if i = 0 then 0 else sget 0 r.w i

/-- Working register `i` takes a value; a write to w0 is discarded. -/
def MeRegs.put (r : MeRegs) (i : Nat) (v : Word) : MeRegs :=
  if i = 0 then r else { r with w := sset 0 r.w i v }

/-- Time operand n: TLS, or T(n − 1) (R403). -/
def MeRegs.tau (r : MeRegs) (n : Nat) : Long := if n = 0 then r.tls else sget 0 r.t (n - 1)

/-- Time operand n takes a value; an operand that does not exist takes nothing. -/
def MeRegs.putTau (r : MeRegs) (n : Nat) (v : Long) : MeRegs :=
  if n = 0 then { r with tls := v }
  else if n < 5 then { r with t := sset 0 r.t (n - 1) v } else r

/-- The flags follow a result (R180). -/
def MeRegs.flags (r : MeRegs) (o : AluOut) : MeRegs := { r with z := o.z, n := o.n, c := o.c.getD r.c }

/-- The engine's registers as the registers of a sequencer, for the operands of a stamped event (R402). -/
def MeRegs.asSeq (r : MeRegs) : Seq := { Seq.init with g := r.w }

/-- The invoking sequencer of a routine of cluster `c` (R398). -/
def MeReq.sequencer (r : MeReq) (c : Nat) : Nat := 8 * c + r.seq

/-! ## The pending set -/

/-- The routine that cluster `c` runs becomes `r`. -/
def State.setRun (s : State) (c : Nat) (r : Routine) : State :=
  s.modMe c (fun m => { m with run := some r })

/-- An update takes effect at a commit (R410); a host routine's g and t updates are discarded (R419). -/
def State.applyUpd (s : State) (c : Nat) (req : MeReq) (u : Upd) : State :=
  let q := req.sequencer c
  match u with
  | .g i v => if req.host then s else s.modSeq q (fun x => x.put i v)
  | .t i v => if req.host then s else s.modSeq q (fun x => x.putT i v)
  | .commit gid tl => s.cmtGroup q gid tl.toNat
  | .shadow addr v =>
    match locate addr.toNat with
    | none => s
    | some l =>
      let s1 := s.shadowWrite l addr.toNat v
      match (l.group.bind (fun g => s1.shadowBad g)) with
      | none => s1
      | some _ => s
  | .publish d v =>
    let s1 : State := { s with dwrites := s.dwrites ++ [⟨s.frame + 4, d, v, false⟩] }
    s1.modSeq q (fun x => { x with lastPublish := some s.frame })
  | .scratch a v => s.scratchStore q a v
  | .rdspX a v => s.setMemWord (aRd c (0x80000 + 4 * a)) v.toNat

/-- Tentative entries of the pending set become accepted events, those on their way included (R410). -/
def State.acceptPending (s : State) (l : List PendEv) : State :=
  forEach l (fun p s =>
    let fix (e : Ev) : Ev := if some e.id = p.id then { e with tentative := false } else e
    s.modTq p.key (fun q => { q with flight := q.flight.map fix, held := q.held.map fix })) s

/-- A commit of routine `r`, whose next word is already in place: the pending set is published, and the
checkpoint is taken (R410, R411); the boundaries its SYNCRs chose are fixed (R507). -/
def State.commitRoutine (s : State) (c : Nat) (r : Routine) : State :=
  let s1 := forEach r.updates (fun u s => s.applyUpd c r.req u) (s.acceptPending r.events)
  let s2 := { s1 with therm := { s1.therm with chosen := r.syncrs ++ s1.therm.chosen } }
  s2.setRun c { r with
    events := [], updates := [], syncrs := [], rerun := false,
    check := r.regs, resume := r.pc, checkVendor := r.vendor }

/-- A routine ahead has ended in this frame: the engine is free from the next one, and a routine that
waits to restart executes 2 frames after it (R408, R415). -/
def State.engineFree (s : State) (c : Nat) : State :=
  s.modMe c (fun m => { m with
    run := none, freeAt := s.frame + 1, again := m.again.map (fun p => (p.1, s.frame + 2)) })

/-- The invoking sequencer's macro-op completes: the next word issues in the next frame (R203). -/
def State.macroDone (s : State) (q : Nat) : State :=
  s.modSeq q (fun x => { x with pc := x.pc + 1, wait := .none, state := 1, nextIssue := s.frame + 1 })

/-- A routine completes after its last commit: TLS becomes the sequencer's TL, but for a host routine
(R203, R410, R419). -/
def State.finishRoutine (s : State) (c : Nat) (r : Routine) : State :=
  let q := r.req.sequencer c
  let s1 := if r.req.host then s else (s.modSeq q (fun x => { x with tl := r.regs.tls })).macroDone q
  s1.engineFree c

/-- Abandonment (R414): tentative entries leave their queues and no longer count; every other staged
action is discarded, and the sequencer that showed a stall of the routine shows it no more (R201). -/
def State.abandon (s : State) (c : Nat) (r : Routine) : State :=
  let q := r.req.sequencer c
  let s1 := forEach r.events (fun p s =>
    let keep (e : Ev) : Bool := !e.tentative || some e.id ≠ p.id
    (s.modTq p.key (fun q => { q with
      flight := q.flight.filter keep, held := q.held.filter keep })).modSeq q (fun x => { x with
        stamps := supd 0 x.stamps p.t (fun n => n - 1) })) s
  let s2 := if r.stalled && !r.req.host then s1.modSeq q (fun x => { x with
    state := if x.state = 2 ∨ x.state = 3 then 1 else x.state }) else s1
  s2.modMe c (fun m => { m with run := none })

/-- The pending sets of the routines in progress are discarded (R414, R415). -/
def State.dropPending (s : State) : State :=
  forEach s.mes (fun (p : Nat × Me) s => match p.2.run with
    | some r => s.abandon p.1 r
    | none => s) s

/-- A routine ends without restart, and its invoking sequencer halts (R415). -/
def State.endRoutine (s : State) (c : Nat) (r : Routine) : State :=
  ((s.abandon c r).haltSeq (r.req.sequencer c)).engineFree c

/-- The routine as its checkpoint restores it (R415). -/
def Routine.restored (r : Routine) (f : Nat) : Routine :=
  { r with
    regs := r.check, pc := r.resume, vendor := r.checkVendor, nextWord := f, events := [],
    updates := [], syncrs := [], skipped := false, rerun := true, priv := [], loads := [], stalled := false }

/-- What the end of the last frame brought is done: a host call accepted in it preempts a routine that is no host
routine, which restarts after the host routine completes; and a routine whose pending SYNCR chose the boundary of a
round marked skipped is abandoned, and its resume entry executes in the next frame (R413, R415, R418). -/
def State.preempt (s : State) (c : Nat) : State :=
  let m := s.me c
  match m.run with
  | none => s
  | some r =>
    if m.hostReq.any (fun h => decide (h.issue < s.frame)) && !r.req.host then
      (s.abandon c r).modMe c (fun m => { m with again := some (r, 2 ^ 64), freeAt := s.frame })
    else if r.skipped then
      (s.abandon c r).modMe c (fun m => { m with again := some (r, s.frame + 1) })
    else s

/-- Round boundary `b` is marked skipped: the routines whose pending set holds a SYNCR that chose it end their section
with this frame (R413). -/
def State.skipRoutines (s : State) (b : Nat) : State :=
  forEach s.mes (fun (p : Nat × Me) s =>
    match p.2.run with
    | some r => if r.syncrs.contains b then s.setRun p.1 { r with skipped := true } else s
    | none => s) s

/-! ## Queue writes -/

/-- Events of one word, in port order: the stall one of them meets, or the state with all of them
written as tentative entries (R408, R410). -/
def State.stageAll (s : State) (c q : Nat) (rerun : Bool) (l : List (Nat × Nat × EvKind)) :
    Stall × State × List PendEv :=
  match l with
  | [] => (.none, s, [])
  | (tgt, t, k) :: rest =>
    match s.stampStall c tgt t with
    | .none =>
      let id := if (s.stampDrop q tgt t k).isNone then some s.freeCtr else none
      let (st, s1, l1) := (s.stampEvent q tgt t k true rerun).stageAll c q rerun rest
      (st, s1, ⟨id, tkey c tgt, t⟩ :: l1)
    | st => (st, s, [])

/-- A word whose queue write stalls waits whole, and the invoking sequencer shows the stall (R201, R408). -/
def State.holdWord (s : State) (c : Nat) (r : Routine) (code : BitVec 3) : State :=
  let s1 := s.setRun c { r with stalled := true }
  if r.req.host then s1 else s1.modSeq (r.req.sequencer c) (fun x => { x with state := code })

/-- One word executes with its queue writes and `n` other staged actions: it stalls (R408), overflows the
pending set (R409), or goes on as `f` says. -/
def State.runWord (s : State) (c : Nat) (r : Routine) (evs : List (Nat × Nat × EvKind)) (n : Nat)
    (f : State → List PendEv → State) : State :=
  let q := r.req.sequencer c
  let (st, s1, l) := s.stageAll c q r.rerun evs
  match st with
  | .lead => s.holdWord c r 3
  | .full => s.holdWord c r 2
  | .none =>
    if 64 < r.events.length + evs.length ∨ 16 < r.updates.length + n then
      (s.raise (aCl c 0x1000) 4).endRoutine c r
    else
      f (if r.req.host then s1 else s1.modSeq q (fun x => { x with state := 1 })) (r.events ++ l)

/-! ## Macro-ops (R201, R202) -/

/-- A request takes its place by issue frame and sequencer number (R201). -/
def insertReq (r : MeReq) (l : List MeReq) : List MeReq :=
  match l with
  | [] => [r]
  | x :: t => if r.issue < x.issue ∨ r.issue = x.issue ∧ r.seq < x.seq then r :: x :: t
              else x :: insertReq r t

/-- A macro-op hands its operands to the microengine, and the sequencer waits for the routine (R201). -/
def State.macroOp (s : State) (q : Nat) (o : MacroOp) (index : Nat) : State :=
  let g (k : Nat) : Nat := (o.gs.val + k) % 32
  s.issue q [g 0, g 1, g 2, g 3] (fun s =>
    let x := s.seq q
    let c := q / 8
    let req : MeReq :=
      { host := false, seq := q % 8, index := index,
        w := [x.get (g 0), x.get (g 1), x.get (g 2), x.get (g 3), o.imm, o.arg.setWidth 32,
              BitVec.ofNat 32 (q % 8)],
        tl := x.tl, t := (List.range 4).map x.getT, issue := s.frame,
        targets := (List.range 228).filter (fun t => s.owns q t) }
    (s.modMe c (fun m => { m with reqs := insertReq req m.reqs })).modSeq q (fun x => { x with
      wait := .routine }))

/-- MEAS: entry-table index 0 (R205). -/
def execMeas (q : Fin 128) (o : MacroOp) (s : State) : Host.Outcome State Fault Refusal :=
  .next (s.macroOp q o 0)

/-- ROUND: entry-table index 1 (R206). -/
def execRound (q : Fin 128) (o : MacroOp) (s : State) : Host.Outcome State Fault Refusal :=
  .next (s.macroOp q o 1)

/-- TRACKWIN: entry-table index 2 (R207). -/
def execTrackwin (q : Fin 128) (o : MacroOp) (s : State) : Host.Outcome State Fault Refusal :=
  .next (s.macroOp q o 2)

/-- UCALL N: entry-table index 128 + N (R202, R208). -/
def execUcall (q : Fin 128) (o : MacroOp) (s : State) : Host.Outcome State Fault Refusal :=
  .next (s.macroOp q o (128 + o.arg.toNat % 128))

end Sys2Proof.Machine
end

