-- ==== Sys2Proof/Machine/MicroVendor.lean ====
section
/-!
DEFINITION. The vendor routines MEAS, ROUND and TRACKWIN, one word at a time (R204 to R207, R209). Their
microcode is not published: each takes the frames R209 gives, commits at least every 14 frames (R417), and
does what R205 to R207 say.
-/
namespace Sys2Proof.Machine

/-- Scratch word `w` as the engine sees it (R115, R204, R412). -/
def State.meScratch (s : State) (c w : Nat) : Nat :=
  if w < 15360 then s.memWord (aCl c (0x40000 + 4 * w)) else 0

/-- The word after `m` ROUND entries that begin at `ptr`: a VZ entry has a PH word (R206). -/
def walkEntries (rd : Nat → Nat) (m ptr : Nat) : Nat :=
  match m with
  | 0 => ptr
  | m + 1 => walkEntries rd m (ptr + if bitsOf (rd ptr) 31 29 = 1 then 2 else 1)

/-- Entries of the layer whose header is word `h` (R206). -/
def layerCount (rd : Nat → Nat) (h : Nat) : Nat := min 64 (bitsOf (rd h) 15 0)

/-- The word after `n` layers that begin at `ptr`. -/
def walkLayers (rd : Nat → Nat) (n ptr : Nat) : Nat :=
  match n with
  | 0 => ptr
  | n + 1 => walkLayers rd n (walkEntries rd (layerCount rd ptr) (ptr + 1))

/-- Pairs of the MEAS descriptor at `w` (R205). -/
def measPairs (rd : Nat → Nat) (w : Nat) : Nat := min 32 (bitsOf (rd w) 23 16)

/-- Whether a MEAS descriptor at `w` reaches word 15,360 (R204). -/
def measOver (rd : Nat → Nat) (w : Nat) : Bool := decide (15360 ≤ w + 1 + measPairs rd w)

/-- Layers of a ROUND descriptor (R206). -/
def roundLayers (rd : Nat → Nat) (w : Nat) : Nat := min 32 (bitsOf (rd w) 7 0)

/-- The MEAS descriptor a ROUND descriptor names (R206). -/
def roundMeas (rd : Nat → Nat) (w : Nat) : Nat := w + bitsOf (rd w) 29 16

/-- Whether a ROUND descriptor, its MEAS descriptor included, reaches word 15,360 (R204). -/
def roundOver (rd : Nat → Nat) (w : Nat) : Bool :=
  decide (15360 ≤ w) || decide (15360 < walkLayers rd (roundLayers rd w) (w + 1))
    || measOver rd (roundMeas rd w)

/-- Frames from a probe to its window: E of R205. -/
def measGap (rd : Nat → Nat) (w : Nat) : Nat :=
  max (bitsOf (rd (w + 1)) 29 16) ((measPairs rd w + 1) / 2)

/-- The window length of a MEAS (R190, R205). -/
def measLen (rd : Nat → Nat) (w : Nat) : Nat := min 8192 (bitsOf (rd (w + 1)) 13 0)

/-- The two events of pair `i` of a MEAS at time `tl` (R205). -/
def measEvents (rd : Nat → Nat) (w i : Nat) (tl : Long) : List (Nat × Nat × EvKind) :=
  let w0 := rd w
  let p := rd (w + 2 + i)
  let at_ (n : Nat) : Nat := (tl + BitVec.ofNat 64 n).toNat
  [(bitsOf p 7 0, at_ (i / 2), .probe (bitsOf w0 15 0) (bitsOf p 20 16) false 0),
   (bitsOf p 15 8, at_ (measGap rd w + i / 2), .acquire (measLen rd w) (bitOf w0 24) (bitOf w0 25))]

/-- The end of a MEAS: TL moves past its windows, and stays where k is 0 (R205). -/
def measEnd (rd : Nat → Nat) (w : Nat) (tl : Long) : Long :=
  let k := measPairs rd w
  if k = 0 then tl else tl + BitVec.ofNat 64 (measGap rd w + (k + 1) / 2 - 1 + measLen rd w)

/-- The event of the ROUND entry at word `p`, stamped at `t` (R206). -/
def entryEvent (rd : Nat → Nat) (p t : Nat) : List (Nat × Nat × EvKind) :=
  let e := rd p
  let tgt := bitsOf e 7 0
  let fs := bitsOf e 28 24
  match bitsOf e 31 29 with
  | 0 => [(tgt, t, .play (bitsOf e 23 8) fs)]
  | 1 => [(tgt, t, .vz fs (BitVec.ofNat 32 (rd (p + 1))))]
  | 2 => [(tgt, t, .phrst fs false)]
  | 3 => [(tgt, t, .mark (bitsOf e 23 8))]
  | _ => []

/-- What a vendor word does: its queue writes, the time register TLS after it, the vendor routine's next
part, and whether it is the last. -/
structure VendorWord where
  evs : List (Nat × Nat × EvKind)
  tls : Long
  next : Vendor
  last : Bool

/-- The part of a MEAS that follows its stamps or, with no pair, its start: `tail` frames to the end. -/
def Vendor.measPart (v : Vendor) (rd : Nat → Nat) (w entry tail : Nat) : Vendor :=
  if entry < measPairs rd w then { v with part := 3, base := w, entry := entry }
  else { v with part := 4, base := w, tail := tail }

/-- The part of a ROUND after `layer` layers, the next header being word `h`. -/
def Vendor.layerPart (v : Vendor) (rd : Nat → Nat) (layer h : Nat) : Vendor :=
  if layer < roundLayers rd v.base then { v with part := 1, layer := layer, header := h }
  else { v with part := 5, tail := 2 }

/-- The word of vendor routine `index` at part `v`, with scratch `rd`, w1 + w5 in `sum` and TLS. The parts
are 0 start, 1 layer header, 2 layer entries, 3 pairs, 4 end of MEAS, 5 start of a ROUND's MEAS, 6 end
without effect (R204, R209). -/
def vendorWord (index : Nat) (rd : Nat → Nat) (sum : Nat) (tls : Long) (v : Vendor) : VendorWord :=
  let stay : VendorWord := ⟨[], tls, v, false⟩
  match v.part with
  | 0 =>
    let w := sum % 16384
    if index = 0 then
      if measOver rd w then { stay with next := { v with part := 6, tail := 2 } }
      else { stay with next := v.measPart rd w 0 2 }
    else
      if roundOver rd w then { stay with next := { v with part := 6, tail := 2 } }
      else { stay with next := { v with base := w }.layerPart rd 0 (w + 1) }
  | 1 =>
    if layerCount rd v.header = 0 then
      { stay with
        tls := tls + BitVec.ofNat 64 (bitsOf (rd v.header) 31 16),
        next := v.layerPart rd (v.layer + 1) (v.header + 1) }
    else { stay with next := { v with part := 2, entry := 0, ptr := v.header + 1 } }
  | 2 =>
    let m := layerCount rd v.header
    let t := (tls + BitVec.ofNat 64 (v.entry / 2)).toNat
    let p1 := walkEntries rd 1 v.ptr
    let two := decide (v.entry + 1 < m)
    let evs := entryEvent rd v.ptr t ++ (if two then entryEvent rd p1 t else [])
    let p2 := if two then walkEntries rd 1 p1 else p1
    if v.entry + 2 < m then ⟨evs, tls, { v with entry := v.entry + 2, ptr := p2 }, false⟩
    else
      ⟨evs, tls + BitVec.ofNat 64 (max (bitsOf (rd v.header) 31 16) ((m + 1) / 2)),
        v.layerPart rd (v.layer + 1) p2, false⟩
  | 3 =>
    ⟨measEvents rd v.base v.entry tls, tls,
      v.measPart rd v.base (v.entry + 1) (if index = 0 then 2 else 3), false⟩
  | 4 =>
    if 1 < v.tail then { stay with next := { v with tail := v.tail - 1 } }
    else ⟨[], measEnd rd v.base tls, v, true⟩
  | 5 =>
    if 1 < v.tail then { stay with next := { v with tail := v.tail - 1 } }
    else { stay with next := v.measPart rd (roundMeas rd v.base) 0 3 }
  | _ =>
    if 1 < v.tail then { stay with next := { v with tail := v.tail - 1 } }
    else { stay with last := true }

/-- TRACKWIN in one word: the window is granted, TL passes it, and the routine is done (R207). -/
def State.trackwinWord (s : State) (c : Nat) (r : Routine) : State :=
  let n := (r.regs.get 1 + r.regs.get 5).toNat
  let first := r.regs.tls.toNat
  let win : TrkWin := ⟨(r.regs.get 6).setWidth 8, r.req.targets, first, first + n⟩
  let s1 := if n = 0 then s else s.modTrk c (fun t => { t with wins := t.wins ++ [win] })
  s1.finishRoutine c { r with regs := { r.regs with tls := r.regs.tls + BitVec.ofNat 64 n } }

/-- A word of MEAS or ROUND: its queue writes, then its part; ROUND begins with a SYNCR, and a section
commits after 12 words (R204 to R206, R417). At which word of the store the routine goes on is not stated, so `ME.PC`
is free from its second word on (log entry 63). -/
def State.descriptorWord (s : State) (c : Nat) (r : Routine) (v : Vendor) : State :=
  let sum := (r.regs.get 1 + r.regs.get 5).toNat
  let o := vendorWord r.req.index (s.meScratch c) sum r.regs.tls v
  let (k, s0) := s.fresh
  s0.runWord c r o.evs 0 (fun s evs =>
    let starts := decide (v.part = 0)
    let refused := starts && decide (o.next.part = 6)
    let syncr := starts && !refused && decide (r.req.index = 1) && decide (s.roundLen ≠ 0)
    let b := s.syncrFrom r.regs.tls.toNat
    let tls := if syncr then BitVec.ofNat 64 b else o.tls
    let s1 := if refused then s.raise (aSeq (r.req.sequencer c) 8) 16 else if syncr then s.sawSyncr else s
    let commits := o.last || decide (12 ≤ v.words + 1)
    let r1 := { r with
      regs := { r.regs with tls := tls }, events := evs, stalled := false, pc := (Config.freeWord k).setWidth 14,
      syncrs := if syncr then b :: r.syncrs else r.syncrs, nextWord := s.frame + 1,
      vendor := some { o.next with words := if commits then 0 else v.words + 1 } }
    if o.last then (s1.commitRoutine c r1).finishRoutine c r1
    else if commits then s1.commitRoutine c r1
    else s1.setRun c r1)

/-- A word of a vendor routine. -/
def State.vendorStep (s : State) (c : Nat) (r : Routine) (v : Vendor) : State :=
  if r.req.index = 2 then s.trackwinWord c r else s.descriptorWord c r v

end Sys2Proof.Machine
end

