-- ==== Sys2Proof/Machine/Micro.lean ====
section
/-!
DEFINITION. The microengine: the microword (R399 to R408), and the start and restart of routines (R398,
R415, R418, R419, R423).
-/
namespace Sys2Proof.Machine

/-! ## The microword (R399) -/

/-- The state of the word under way: registers, staged updates, the boundary a SYNCR chose, refused
actions, loads and private scratch. -/
structure WordRun where
  regs : MeRegs
  upds : List Upd
  syncr : Option Nat
  refused : Bool
  loads : List (Nat × Word)
  priv : Sparse Word

/-- A refused staged action (R407), or one staged. -/
def WordRun.stage (x : WordRun) (ok : Bool) (u : Upd) : WordRun :=
  if ok then { x with upds := x.upds ++ [u] } else { x with refused := true }

/-- Whether an address is a member field of a group that CMT of cluster `c` may commit (R124, R407). -/
def shadowOk (c addr : Nat) : Bool :=
  match locate addr with
  | some l => decide (l.group.bind groupCluster = some c)
  | none => false

/-- Port `n` of the microword (R402): the event it writes, from the registers before the word. -/
def portEvent (w n : Nat) (r : MeRegs) : List (Nat × Nat × EvKind) :=
  let f := bitsOf w (156 - 30 * n) (127 - 30 * n)
  let opr := bitsOf f 24 20
  let base := bitsOf f 11 9
  let word := (0x40 + bitsOf f 28 25) * 2 ^ 56 + (r.get ((opr + 1) % 32)).toNat % 2 ^ 24 * 2 ^ 32
    + (r.get opr).toNat
  if bitOf f 29 && decide (base < 5) then
    match timedOf (decodeSeq 0 word) with
    | some (tgt, k) => [(tgt.toNat, (r.tau base + BitVec.ofNat 64 (bitsOf f 19 12)).toNat, k r.asSeq)]
    | none => []
  else []

/-- The ALU operations of R403 that take w(A) and b and give a result with its flags as R180. -/
def microAlu (op : Nat) (a b : Word) : Option AluOut :=
  match op with
  | 0x02 => some (aluAdd a b)
  | 0x03 => some (aluSub a b)
  | 0x04 => some (aluAnd a b)
  | 0x05 => some (aluOr a b)
  | 0x06 => some (aluXor a b)
  | 0x07 => some (aluShl a b)
  | 0x08 => some (aluShr false a b)
  | 0x09 => some (aluShr true a b)
  | 0x0A => some (aluMul16 a b)
  | 0x0C => some (.of (if a.toInt < b.toInt then b else a))
  | 0x0D => some (.of (if a.toInt < b.toInt then a else b))
  | _ => none

/-- TLS minus the frame counter, limited to the signed 32-bit range (R403). -/
def leadOf (tls : Long) (frame : Nat) : Word := BitVec.ofInt 32 (satInt 32 ((tls.toNat : Int) - frame))

/-- The ALU field (R403); `old` are the registers before the word, `b` its operand, and `free` a time the
spec gives no register for. -/
def State.aluField (s : State) (c w : Nat) (old : MeRegs) (b : Word) (free : Long) (x : WordRun) : WordRun :=
  let f := bitsOf w 96 77
  let op := bitsOf f 19 15
  let d := bitsOf f 14 10
  let a := bitsOf f 9 5
  let wa := old.get a
  let ta := if a < 5 then old.tau a else free
  match microAlu op wa b with
  | some o => { x with regs := (x.regs.put d o.r).flags o }
  | none =>
    match op with
    | 0x01 => { x with regs := x.regs.put d b }
    | 0x0B => { x with regs := x.regs.flags (aluCmp wa b) }
    | 0x10 => { x with regs := x.regs.putTau d (ta + b.signExtend 64) }
    | 0x11 => if d < 5 then
          { x with regs := x.regs.putTau d (if (old.tau d).toNat < ta.toNat then ta else old.tau d) }
        else x
    | 0x12 => { x with regs := x.regs.put d (leadOf old.tls s.frame) }
    | 0x13 => if s.roundLen = 0 then x else
        let t := s.syncrFrom old.tls.toNat
        { x with regs := { x.regs with tls := BitVec.ofNat 64 t }, syncr := some t }
    | 0x18 => if d = 0 then x else x.stage true (.g d wa)
    | 0x19 => x.stage true (.t (d % 4) ta)
    | 0x1A => x.stage true (.commit wa old.tls)
    | 0x1B => x.stage (shadowOk c wa.toNat) (.shadow wa (old.get (bitsOf f 4 0)))
    | _ => x

/-- The PERC field of sequencer `q`'s routine (R404). -/
def State.percField (s : State) (w q : Nat) (x : WordRun) : WordRun :=
  let f := bitsOf w 52 37
  let d := bitsOf f 12 0
  let xb := bitOf f 13
  match bitsOf f 15 14 with
  | 1 => { x with regs := { x.regs with dv := s.dbitReady d xb, dval := (s.dbitSeen d).value } }
  | 2 => x.stage (decide (7168 + 8 * q ≤ d ∧ d < 7176 + 8 * q)) (.publish d xb)
  | 3 =>
    let p := s.pauli (d % 1024)
    { x with regs := { x.regs with dv := true, dval := if xb then p.2 else p.1 } }
  | _ => x

/-- The address of the AGEN field (R405). -/
def agenAddr (w : Nat) (old : MeRegs) : Nat :=
  let f := bitsOf w 76 53
  ((((old.get (bitsOf f 16 12)).toNat : Int) + sbitsOf f 11 0) % 16384).toNat

/-- The AGEN field (R405, R412). -/
def State.agenField (s : State) (c w : Nat) (old : MeRegs) (x : WordRun) : WordRun :=
  let f := bitsOf w 76 53
  let reg := bitsOf f 21 17
  let a := agenAddr w old
  match bitsOf f 23 22 with
  | 1 =>
    let v := if a < 15360 then BitVec.ofNat 32 (s.meScratch c a) else sget 0 x.priv a
    { x with loads := x.loads ++ [(reg, v)] }
  | 2 => if 15360 ≤ a then { x with priv := sset 0 x.priv a (old.get reg) } else { x with refused := true }
  | 3 => x.stage (decide (a < 15360)) (.scratch a (old.get reg))
  | _ => x

/-- The RDSP field (R406). -/
def State.rdspField (s : State) (c w : Nat) (old : MeRegs) (x : WordRun) : WordRun :=
  let f := bitsOf w 36 25
  let reg := bitsOf f 9 5
  let a := agenAddr w old
  match bitsOf f 11 10 with
  | 1 => x.stage true (.rdspX a (old.get reg))
  | 2 => { x with loads := x.loads ++ [(reg, BitVec.ofNat 32 (s.memWord (aRd c (0xC0000 + 4 * a))))] }
  | _ => x

/-- The fields of a microword other than its queue writes, in one frame (R399, R400): each reads the
registers as they stood before the word, and loads of the word before arrive after it (R405). -/
def State.wordFields (s : State) (c w : Nat) (r : Routine) (free : Long) : WordRun :=
  let q := r.req.sequencer c
  let old := r.regs
  let immx := bitOf w 0
  let b : Word := if immx then BitVec.ofNat 32 (bitsOf w 14 11 * 2 ^ 28 + bitsOf w 52 25)
    else old.get (bitsOf w 81 77)
  let regs := r.loads.foldl (fun x p => x.put p.1 p.2) old
  let x0 : WordRun := ⟨regs, [], none, false, [], r.priv⟩
  let x1 := s.aluField c w old b free x0
  let x2 := if immx then x1 else s.percField w q x1
  let x3 := s.agenField c w old x2
  if immx then x3 else s.rdspField c w old x3

/-- The branch condition of a word, from the flags before it (R401). -/
def branchHolds (cond : Nat) (r : MeRegs) : Bool :=
  let base := match cond % 32 with
    | 1 => r.z
    | 2 => r.n
    | 3 => r.c
    | 4 => r.dv
    | 5 => r.dval
    | 6 => r.dv && r.dval
    | _ => false
  bitOf cond 5 != base

/-- A word of customer microcode (R399 to R412, R422). -/
def State.customerWord (s : State) (c w : Nat) (r : Routine) : State :=
  let (k, s0) := s.fresh
  let x := s.wordFields c w r (Config.freeLong k)
  let next := if branchHolds (bitsOf w 177 172) r.regs then bitsOf w 171 158 else bitsOf w 191 178
  let done := bitOf w 1
  s0.runWord c r (portEvent w 0 r.regs ++ portEvent w 1 r.regs) x.upds.length (fun s evs =>
    let s1 := if x.refused then s.raise (aCl c 0x1000) 5 else s
    let s2 := match x.syncr with
      | some _ => s1.sawSyncr
      | none => s1
    let r1 := { r with
      regs := x.regs, pc := BitVec.ofNat 14 next, events := evs, updates := r.updates ++ x.upds,
      syncrs := x.syncr.toList ++ r.syncrs, loads := x.loads, priv := x.priv,
      nextWord := s.frame + 1 + bitsOf w 24 15, stalled := false }
    if done then (s2.commitRoutine c r1).finishRoutine c r1
    else
      let s3 := if bitOf w 157 then s2.commitRoutine c r1 else s2.setRun c r1
      if next < 12288 ∧ 128 ≤ r.req.index then
        match (s3.me c).run with
        | some r2 => (s3.raise (aCl c 0x1000) 7).endRoutine c r2
        | none => s3
      else s3)

/-- What the engine meets in the control store where it reads word or entry `i`: a corrected error is counted, and an
uncorrectable one is a device fault (R127, R424). -/
def State.storeRead (s : State) (ecc : Ecc) (i : Nat) (f : State → State) : State :=
  match ecc with
  | .clean => f s
  | .corrected _ => f (s.count 0x90090004 (ecc.fixed (if i < 16384 then 3 else 1)))
  | .uncorrectable => s.eccFault none 7 i

/-- The routine of cluster `c` that still runs ends without restart (R415). -/
def State.endPresent (s : State) (c : Nat) : State :=
  match (s.me c).run with
  | some r => s.endRoutine c r
  | none => s

/-- The word `run` of the engine of cluster `c`, whose load meets an uncorrectable error in scratch word `a`: the word
completes with its commit, which stand, the routine ends with it, and the cluster faults; a word that a stall holds
loads nothing (R127, R408, R413, R415). -/
def State.scratchFault (s : State) (c a : Nat) (run : State → State) : State :=
  let t := run s
  if (t.me c).run.any (fun r => r.stalled) then t
  else (t.endPresent c).eccFaultAfter (fun s => (run s).endPresent c) (some c) 4 a

/-- MICROWORD: the routine in progress executes its next word; `w` is that word as the control store holds
it, `ecc` what the engine meets in it and `scr` what a load of it meets in scratch (R408, R413, R424). -/
def execMicroword (cl : Fin 16) (w : BitVec 192) (ecc scr : Ecc) (s : State) :
    Host.Outcome State Fault Refusal :=
  .next (
    let c := cl.val
    match (s.me c).run with
    | none => s
    | some r =>
      if s.mode ≠ .run ∨ s.contained c ∨ s.frame < r.nextWord then s
      else s.storeRead ecc r.pc.toNat (fun s =>
        match r.vendor with
        | some v =>
          let run (s : State) : State := s.vendorStep c r v
          if scr = .uncorrectable ∧ r.req.index ≠ 2 then s.scratchFault c v.base run else run s
        | none =>
          let a := agenAddr w.toNat r.regs
          let run (s : State) : State := s.customerWord c w.toNat r
          if scr = .uncorrectable ∧ bitsOf w.toNat 76 75 = 1 ∧ a < 15360 then s.scratchFault c a run else run s))

/-! ## Start and restart -/

/-- Entry `i` of the entry table (R421): the vendor image has VALID entries for MEAS, ROUND and TRACKWIN, and patches may
have replaced entries of it (R202, R425). -/
def State.entryWord (s : State) (i : Nat) : Nat :=
  if i < 128 then
    match sget none s.boot.entries i with
    | some w => w.toNat
    | none => if i ≤ 2 then 2 ^ 31 + (Config.vendorEntry i).toNat else 0
  else s.regN (0x90080000 + 4 * i)

/-- Whether entry `i` of the entry table is VALID (R421). -/
def State.entryValid (s : State) (i : Nat) : Bool := bitOf (s.entryWord i) 31

/-- A routine starts with its first word in this frame (R398, R419, R428). -/
def State.beginRoutine (s : State) (c : Nat) (q : MeReq) : State :=
  let given := if q.host then (List.range 4).map (fun i => s.reg (aCl c (0x1014 + 4 * i))) else []
  let w := (List.range 7).foldl (fun l i => sset 0 l (i + 1) ((given ++ q.w.drop given.length).getD i 0)) ([] : Sparse Word)
  let t := (List.range 4).foldl (fun l i => sset 0 l i (q.t.getD i 0)) ([] : Sparse Long)
  let regs : MeRegs :=
    { MeRegs.init with
      w := w, t := t,
      tls := if q.host then BitVec.ofNat 64 s.frame + q.tl else q.tl }
  let pc : BitVec 14 := BitVec.ofNat 14 (s.entryWord q.index)
  let v : Option Vendor := if q.index < 3 then some ⟨0, 0, 0, 0, 0, 0, 0, 0⟩ else none
  s.setRun c
    { req := q, regs := regs, pc := pc, resume := pc, check := regs, checkVendor := v,
      nextWord := s.frame, events := [], updates := [], syncrs := [], skipped := false, rerun := false, priv := [],
      loads := [], vendor := v, stalled := false }

/-- `NO_ENTRY`: the index is latched, no word runs, and the invoking sequencer halts (R415, R423). -/
def State.noEntry (s : State) (c : Nat) (q : MeReq) : State :=
  ((s.raise (aCl c 0x1000) 6).setFld (aCl c 0x1000) 23 16 q.index).haltSeq (q.sequencer c)

/-- The macro-ops whose entry is not VALID complete in frame I + 2, whatever the engine does (R423). -/
def State.voidRequests (s : State) (c : Nat) (ecc : Ecc) : State :=
  let void (q : MeReq) : Bool := decide (q.issue + 2 ≤ s.frame) && !s.entryValid q.index
  let l := (s.me c).reqs.filter void
  forEach l (fun q s => s.storeRead ecc q.index (fun s => s.noEntry c q))
    (if l.isEmpty then s else s.modMe c (fun m => { m with reqs := m.reqs.filter (fun q => !void q) }))

/-- A free engine takes the host call posted, else the oldest foreground request, in the frame of its first word (R408,
R418). -/
def State.takeRequest (s : State) (c : Nat) (ecc : Ecc) : State :=
  let m := s.me c
  let ready (q : MeReq) : Bool := m.run.isNone && decide (max (q.issue + 2) m.freeAt ≤ s.frame)
  match m.hostReq, m.again, m.reqs with
  | some h, _, _ =>
    if s.entryValid h.index then
      if ready h then s.storeRead ecc h.index (fun s =>
        (s.modMe c (fun m => { m with hostReq := none })).beginRoutine c h)
      else s
    else if h.issue < s.frame then s.storeRead ecc h.index (fun s =>
      ((s.modMe c (fun m => { m with hostReq := none })).noEntry c h).engineFree c)
    else s
  | none, none, q :: rest =>
    if ready q then s.storeRead ecc q.index (fun s =>
      (s.modMe c (fun m => { m with reqs := rest })).beginRoutine c q)
    else s
  | none, _, _ => s

/-- ROUTINE_START: requests whose entry is not VALID are answered, and a free engine takes the next request (R408, R418,
R423, R424). -/
def execRoutineStart (cl : Fin 16) (ecc : Ecc) (s : State) : Host.Outcome State Fault Refusal :=
  .next (
    if s.mode ≠ .run ∨ s.contained cl.val then s
    else (s.voidRequests cl.val ecc).takeRequest cl.val ecc)

/-- RESTART: an abandoned routine has its checkpoint restored, and its resume entry executes in this
frame. A checkpoint that cannot be corrected ends it, and its sequencer halts (R413, R415); R127 gives that error no
scope (log entry 63). -/
def execRestart (cl : Fin 16) (ecc : Ecc) (s : State) : Host.Outcome State Fault Refusal :=
  .next (
    let c := cl.val
    let m := s.me c
    let held := m.hostReq.any (fun h => decide (h.issue < s.frame))
    match m.again with
    | some (r, f) =>
      if s.mode ≠ .run ∨ s.contained c ∨ m.run.isSome ∨ held = true ∨ s.frame < f then s
      else if ecc = .uncorrectable then
        (((s.modMe c (fun m => { m with again := none })).haltSeq (r.req.sequencer c)).engineFree c).record 0x07
          (leBytes 1 11 ++ leBytes 4 r.resume.toNat)
      else
        (s.modMe c (fun m => { m with run := some (r.restored s.frame), again := none })).count
          (aCl c 0x100C) 1
    | none => s)

end Sys2Proof.Machine
end

