-- ==== Sys2Proof/Machine/Nv.lean ====
section
/-!
DEFINITION. The NV die and the event recorder (R496, R512, R518 to R533).
-/
namespace Sys2Proof.Machine

/-! ## Recorder slots (R523 to R526) -/

/-- The address of a recorder slot. -/
def aRec (slot : Nat) : Nat := 0x03100000 + 64 * slot

/-- Whether 64 bytes are a valid record (R525). -/
def recOk (l : List Byte) : Bool :=
  leAt l 63 1 = 0xA5 && leAt l 60 2 = crc16 (l.take 60)

/-- The valid records of the slots: slot and SEQ. -/
def State.validRecs (s : State) : List (Nat × Nat) :=
  s.mem.filterMap (fun c =>
    if 0x03100000 ≤ c.1 ∧ c.1 < 0x03190000 ∧ c.1 % 64 = 63 then
      let slot := (c.1 - 0x03100000) / 64
      let l := s.bytesAt (aRec slot) 64
      if recOk l then some (slot, leAt l 0 4) else none
    else none)

/-- The firmware's scan of the recorder (R526). -/
def State.recScan (s : State) : State :=
  let l := s.validRecs
  let top (l : List (Nat × Nat)) : Option (Nat × Nat) :=
    l.foldl (fun (b : Option (Nat × Nat)) x => match b with
      | some y => if y.2 < x.2 then some x else some y
      | none => some x) none
  let head := match top (l.filter (fun x => decide (1024 ≤ x.1))) with
    | some x => if x.1 = 9215 then 1024 else x.1 + 1
    | none => 1024
  let next := match top l with
    | some x => x.2 + 1
    | none => 0
  let used := (l.filter (fun x => decide (x.1 < 1024))).length
  ((s.setRegN 0x03000404 next).setRegN 0x03000408 head).setRegN 0x0300040C used

/-- The 64 bytes of a record (R524). -/
def recBytes (r : Rec) (seq suppressed : Nat) (ovf : Bool) : List Byte :=
  let body := leBytes 4 seq ++ leBytes 1 r.code
    ++ leBytes 1 (r.cls + 4 * b2n r.noTime + 8 * b2n ovf) ++ leBytes 2 (min 65535 suppressed)
    ++ r.time ++ leBytes 8 r.frame ++ [r.mode, 0] ++ leBytes 2 r.epoch.toNat ++ r.detail
  body ++ leBytes 2 (crc16 body) ++ [0, 0xA5]

/-- Byte 63 of every circulating slot becomes 0x00, and CIRC_HEAD 1,024 (R532). -/
def State.clearCirc (s : State) : State :=
  ({ s with mem := s.mem.filter (fun c =>
      !(decide (0x03100000 + 64 * 1024 ≤ c.1 ∧ c.1 < 0x03190000) && c.1 % 64 == 63)) }).setRegN 0x03000408 1024

/-- The highest SEQ of a valid circulating record (R532). -/
def State.topCirc (s : State) : Nat :=
  (s.validRecs.filter (fun x => decide (1024 ≤ x.1))).foldl (fun m x => max m x.2) 0

/-- The die begins to write record `r`, for the RECORDER_CLEAR `clear` or none: byte 63 of its slot becomes 0x00 (R525,
R526, R528). -/
def State.beginRec (s : State) (r : Rec) (rest : List Rec) : State :=
  let used := s.regN 0x0300040C
  let perm := recPerm r.code
  let ovf := perm && decide (1024 ≤ used)
  let slot := if perm && !ovf then used else s.regN 0x03000408
  let l := recBytes r (s.regN 0x03000404) (sget 0 s.bar.suppressed r.code) ovf
  let s1 := s.setBytes (aRec slot + 63) [0]
  let s2 := if ovf then s1.setFld 0x03000400 0 0 1 else s1
  { s2 with bar := { s2.bar with
    queue := rest, streak := s.bar.streak + 1, suppressed := sset 0 s.bar.suppressed r.code 0,
    write := some (.record slot l (perm && !ovf) r.clear false), writeAt := s.ticks } }

/-- The die takes the next record of the queue; for a clear the circulating area is cleared first (R520, R532). -/
def State.takeRec (s : State) (r : Rec) (rest : List Rec) : State :=
  match r.clear with
  | none => s.beginRec r rest
  | some _ =>
    s.clearCirc.beginRec { r with detail := r.detail.take 8 ++ leBytes 4 s.topCirc ++ r.detail.drop 12 } rest

/-- The last step of a record's write, after bytes 0 to 62: byte 63 becomes 0xA5, the record counts, and with the record
of a clear its RECORDER_CLEAR completes (R107, R525, R526, R532). -/
def State.endRec (s : State) (slot : Nat) (l : List Byte) (perm : Bool) (clear : Option Taken) : State :=
  let head := s.regN 0x03000408
  let s1 := (s.setBytes (aRec slot) l).setRegN 0x03000404 (leAt l 0 4 + 1)
  let s2 := if perm then s1.setRegN 0x0300040C (s1.regN 0x0300040C + 1)
    else s1.setRegN 0x03000408 (if head = 9215 then 1024 else head + 1)
  match clear with
  | none => s2
  | some t => (s2.setFld 0x03000400 2 2 (b2n (s2.bar.queue.any (fun x => x.clear.isSome)))).complete t .ok []

/-! ## Stores and pages (R496, R518, R520) -/

/-- The offset of an area of `NV.CMD` in the NV die (R512, R518). AUTHKEY and the PROV limits lie in PROV, and their pages
are counted from its first byte (DESIGN CHOICE, log entry 7). -/
def nvArea (area : Nat) : Option Nat :=
  match area with
  | 1 => some 0x200000
  | 2 => some 0xA00000
  | 3 => some 0x1200000
  | 4 | 5 => some 0x100000
  | _ => none

/-- Pages of an area of `NV.CMD`; AUTHKEY and the PROV limits lie in the 1 MiB of PROV (R512, R518). -/
def nvPages (area : Nat) : Nat :=
  match area with
  | 1 | 2 => 2048
  | 3 => 1024
  | 4 | 5 => 256
  | _ => 0

/-- The refusal of a write of `NV.CMD` (R518). -/
def State.nvCmdBad (s : State) (v : Word) : Option Status :=
  let area := bitsOf v.toNat 27 24
  if !bitOf v.toNat 31 then none
  else if s.fld 0x03000C04 0 0 = 1 then some .modeRefused
  else if s.mode = .run then some .liveWriteRefused
  else if nvPages area ≤ bitsOf v.toNat 23 0 then some .rangeRefused
  else if area = s.fld 0x03000C08 0 0 + 1 then some .rangeRefused
  else if area = 4 ∧ s.bar.authKey then some .rangeRefused
  else none

/-- A write of `NV.CMD` with GO = 1: the page waits for the die (R518). -/
def State.nvGo (s : State) (v : Word) : State :=
  if bitOf v.toNat 31 then
    ({ s with bar := { s.bar with page := some v } }).setFld 0x03000C04 0 0 1
  else s

/-- A write of 1 to `BIAS.NV_CTRL.STORE` of output `b` (R496). -/
def State.nvStore (s : State) (b : Nat) (v : Word) : State :=
  if bitOf v.toNat 0 ∧ s.fld (aBias b 0x30) 1 1 = 0 then
    ({ s with bar := { s.bar with stores := s.bar.stores ++ [b] } }).setFld (aBias b 0x30) 1 1 1
  else s

/-- Both NV records of output `b` are programmed, and the always-on domain copies the fault record (R496). -/
def State.programBias (s : State) (b : Nat) (p f : BitVec 22) : State :=
  (s.modBias b (fun x =>
    let y := { x with nvPwrup := p, nvFault := f, aonFault := f }
    if x.fault then y.retarget (recRange f) s.ticks else y)).setFld (aBias b 0x30) 1 1 0

/-- `n` bytes of the NV die from an offset; one that no page has programmed reads 0 (log entry 7). -/
def State.nvRead (s : State) (o n : Nat) : List Byte := (List.range n).map (fun i => sget 0 s.bar.nv (o + i))

/-- The container at offset `o` of an area that ends before offset `top`: its header and, as far as the area reaches,
its ciphertext (R425). -/
def State.containerAt (s : State) (o top : Nat) : List Byte :=
  let n := 0x8C + leAt (s.nvRead o 0x8C) 12 4
  s.nvRead o (min n (top - o))

/-- The first check of R425, R426 and R513 that a container fails, in their order: 0 the signature, 1 the tag, 2 MAGIC, 3
FORMAT, 4 STEPPING, 5 its length. The numbers are the model's (DESIGN CHOICE, log entry 45). -/
def containerCheck (magic : Nat) (l : List Byte) : Option Nat :=
  if !Config.signed l then some 0
  else if !Config.tagged l then some 1
  else if leAt l 0 4 ≠ magic then some 2
  else if leAt l 4 2 ≠ 1 then some 3
  else if leAt l 6 2 ≠ 0xB1 then some 4
  else if l.length ≠ 0x8C + leAt l 12 4 then some 5
  else none

/-- Whether a container is genuine: its fields, its signature and its tag (R425, R426, R513). -/
def containerOk (magic : Nat) (l : List Byte) : Bool := (containerCheck magic l).isNone

/-- The VERSION of the image that a slot of 8 MiB at offset `o` holds, if it is genuine (R513). -/
def State.imageAt (s : State) (o : Nat) : Option Word :=
  let l := s.containerAt o (o + 0x800000)
  if containerOk 0x46514657 l then some (BitVec.ofNat 32 (leAt l 8 4)) else none

/-- Registers whose NV reset value PROV holds, with the bits of their fields: `HOST.PORT_CFG` and the `CORR` words of the
network time unit (R12, R512, R564). -/
def nvResetWords : List (Nat × Word) :=
  [(0x01000000, 0x31), (0x02000040, 0xFFFFFFFF), (0x02000044, 0xFFFFFFFF), (0x02000048, 0xFFFFFFFF),
    (0x0200004C, 0xFFFFFFFF)]

/-- A page has been programmed. What a page of the PROV limits holds, and which bytes of PROV are the levels, the NV reset
values and the authority key, is not stated: they become free values (log entry 7). -/
def State.programPage (s : State) (v : Word) : State :=
  match bitsOf v.toNat 27 24 with
  | 1 => { s with bar := { s.bar with imgA := s.imageAt 0x200000 } }
  | 2 => { s with bar := { s.bar with imgB := s.imageAt 0xA00000 } }
  | 3 => s
  | 4 =>
    let (n, s1) := s.fresh
    let (m, s2) := s1.fresh
    ({ s2 with bar := { s2.bar with authKey := true } }).record 0x35
      (leBytes 8 (Config.freeLong n).toNat ++ leBytes 8 (Config.freeLong m).toNat)
  | _ =>
    let (n, s1) := s.fresh
    let (m, s2) := s1.fresh
    let s3 := forEach nvResetWords (fun a s =>
      let (k, t) := s.fresh
      { t with bar := { t.bar with nvReset := sset (resetWord a.1) t.bar.nvReset a.1 (Config.freeWord k &&& a.2) } }) s2
    { s3 with bar := { s3.bar with minFw := Config.freeWord n, minPatch := Config.freeWord m } }

/-- Bytes are stored in the NV die from an offset upward. -/
def nvBytes (nv : List Host.Cell) (a : Nat) (l : List Byte) : List Host.Cell :=
  match l with
  | [] => nv
  | b :: t => nvBytes (sset 0 nv a b) (a + 1) t

/-- The page is programmed, or fails (R518). -/
def State.endPage (s : State) (v : Word) (l : List Byte) (ok : Bool) : State :=
  let s1 := s.setFld 0x03000C04 0 0 (b2n s.bar.page.isSome)
  if !ok then s1.raise 0x03000C04 1
  else
    let s2 := match nvArea (bitsOf v.toNat 27 24) with
      | some o => { s1 with bar := { s1.bar with nv := nvBytes s1.bar.nv (o + 4096 * bitsOf v.toNat 23 0) l } }
      | none => s1
    s2.programPage v

/-- Whether the Barista firmware runs (R515). -/
def State.baristaRuns (s : State) : Bool := decide (s.mode ≠ .reset) && decide (2 ≤ s.boot.step)

/-- The write in progress ends (R496, R518, R525). -/
def State.endWrite (s : State) (pageOk : Bool) : State :=
  let s1 := { s with bar := { s.bar with write := none } }
  match s.bar.write with
  | some (.record slot l perm clear _) => s1.endRec slot l perm clear
  | some (.store b p f) => s1.programBias b p f
  | some (.page v l) => s1.endPage v l pageOk
  | none => s1

/-- The waiting BIAS STORE that came first is begun: its records are those of now (R496; log entry 43). -/
def State.beginStore (s : State) : State :=
  match s.bar.stores with
  | b :: rest => { s with bar := { s.bar with
      stores := rest, streak := 0, writeAt := s.ticks,
      write := some (.store b (BitVec.ofNat 22 (s.regN (aBias b 0x28))) (BitVec.ofNat 22 (s.regN (aBias b 0x2C)))) } }
  | [] => s

/-- A free die takes the next write: recorder records first, BIAS records second, pages third, but a waiting BIAS STORE
after 8 recorder writes in a row (R520). -/
def State.beginWrite (s : State) : State :=
  if s.bar.write.isSome || !s.baristaRuns then s
  else match s.bar.queue, s.bar.stores, s.bar.page with
    | r :: rest, [], _ => s.takeRec r rest
    | r :: rest, _ :: _, _ => if 8 ≤ s.bar.streak then s.beginStore else s.takeRec r rest
    | [], _ :: _, _ => s.beginStore
    | [], [], some v => { s with bar := { s.bar with
        page := none, streak := 0, writeAt := s.ticks, write := some (.page v (s.bytesAt 0x03001000 4096)) } }
    | [], [], none => s

/-- NV_DIE_WRITE: the write in progress ends, and the die, free, takes the next (R520). A write in progress ends in RESET
too; none begins while the Barista does not run. -/
def execNvDieWrite (pageOk : Bool) (s : State) : Host.Outcome State Fault Refusal :=
  .next (s.endWrite pageOk).beginWrite

/-- Whether `d` frames have passed since the last step of the write in progress, or the die ends the step earlier (R520). -/
def State.stepEnds (s : State) (d : Nat) : Bool :=
  Config.dieReady (s.moment s.ticks) || decide (s.bar.writeAt + d ≤ s.ticks)

/-- The middle step of a record's write ends: bytes 0 to 62 stand in the slot (R525). -/
def State.midWrite (s : State) : State :=
  match s.bar.write with
  | some (.record slot l perm clear false) =>
    if s.bar.writeAt < s.ticks ∧ s.stepEnds 50000 then
      let s1 := s.setBytes (aRec slot) (l.take 63)
      { s1 with bar := { s1.bar with write := some (.record slot l perm clear true), writeAt := s.ticks } }
    else s
  | _ => s

/-- Whether the write in progress ends in this frame: a record within 100 µs, a BIAS STORE within 5 ms and a page within 10
ms (R520). -/
def State.writeEnds (s : State) : Bool :=
  match s.bar.write with
  | some (.record _ _ _ _ half) => half && decide (s.bar.writeAt < s.ticks) && s.stepEnds 50000
  | some (.store _ _ _) => decide (s.bar.writeAt < s.ticks) && s.stepEnds 5000000
  | some (.page _ _) => decide (s.bar.writeAt < s.ticks) && s.stepEnds 10000000
  | none => false

/-! ## Clearing (R532) -/

/-- A fresh `REC.CLEAR_NONCE` (R532). -/
def State.newNonce (s : State) : State :=
  let (n, s1) := s.fresh
  s1.setReg64 0x03000418 (Config.freeLong n).toNat

/-- Whether the fields of a token are right (R532). -/
def State.tokenFields (s : State) (l : List Byte) : Bool :=
  decide (leAt l 0 4 = 0x52434C52) && decide (leAt l 4 2 = 1) && decide (leAt l 6 2 = 0)
    && decide (leAt l 8 8 = s.reg64 0x03000800) && decide (leAt l 16 8 = s.reg64 0x03000418)

/-- A clear with its token: the failed check of a refused one, or none; a valid one waits for the NV die behind the
records formed before it, and is done there (R520, R532; log entry 39). -/
def State.clearAttempt (s : State) (t : Taken) (sigOk : Bool) : State :=
  let l := t.cmd.payload
  let fail (check : Nat) : State :=
    ((s.record 0x34 (leBytes 1 check)).newNonce).complete t .authRefused []
  if !s.bar.authKey then fail 0
  else if !s.tokenFields l then fail 1
  else if !sigOk then fail 2
  else
    ((s.setFld 0x03000400 2 2 1).queueRec
      (s.formRec 0x33 (leBytes 8 (s.reg64 0x03000418)) (some t))).newNonce

/-! ## Tokens, hours and calendar time (R528 to R530) -/

/-- TOKEN_REFILL: the bucket of a code gains a token, up to BURST (R528). -/
def execTokenRefill (code : Byte) (s : State) : Host.Outcome State Fault Refusal := .next (s.refill code.toNat)

/-- Frames of an hour. -/
def hourFrames : Nat := 3600000000000

/-- OPERATING_HOURS_UPDATE: another hour in which the always-on rail was valid is over. In RESET no frames are counted, and
the row itself says that the hour is over (R529; log entry 45). -/
def execOperatingHoursUpdate (s : State) : Host.Outcome State Fault Refusal :=
  .next (
    if s.power.aon ∧ (s.mode = .reset ∨ hourFrames ≤ s.bar.railFrames) then
      let s1 := s.setRegN 0x03000820 (s.regN 0x03000820 + 1)
      { s1 with bar := { s1.bar with railFrames := s1.bar.railFrames - hourFrames } }
    else s)

/-- A write of `BAR.TAI_REF` applies the reference with `BAR.TAI_SEC` (R530). -/
def State.taiApply (s : State) (v : Word) : State :=
  let hi := s.regN 0x03000814
  let sec := s.regN 0x03000810 + bitsOf hi 15 0 * 2 ^ 32
  let s1 := s.setReg 0x03000818 v
  { s1 with bar := { s1.bar with
    tai := some (sec, bitsOf hi 25 16, s.bar.clockNs - (s.ns - v).toInt) } }

end Sys2Proof.Machine
end

