-- ==== Sys2Proof/Machine/Thermal.lean ====
section
/-!
DEFINITION. Thermal management (R502 to R510): samples, levels, failed sensors, skipped rounds and shutdown.
-/
namespace Sys2Proof.Machine

/-- The thresholds of WARN, THROTTLE and SHUTDOWN in 1/16 °C (R503). -/
def thermTheta : List Int := [1568, 1648, 1792]

/-- The sensors of each die (R502). -/
def thermDies : List (List Nat) :=
  List.range 16 :: (List.range 4).map (fun k => (List.range 7).map (fun i => 16 + 7 * k + i))
    ++ [[44, 45, 46, 47]]

/-- Whether sensor `k` has failed (R505). -/
def State.sensorFailed (s : State) (k : Nat) : Bool := bitOf (s.regN (0x03000008 + 4 * (k / 32))) (k % 32)

/-- Whether sensor `k` is masked (R505). -/
def State.sensorMasked (s : State) (k : Nat) : Bool := bitOf (s.regN (0x03000010 + 4 * (k / 32))) (k % 32)

/-- One sensor's reading: a failure of range or self-check, or a new `THERM.TEMP` (R502, R505). -/
def State.takeReading (s : State) (k : Nat) (t : Int) (bad : Bool) : State :=
  if s.sensorFailed k then s
  else if bad ∨ t < -880 ∨ 2400 < t then
    let last := s.fld (0x03000100 + 4 * k) 15 0
    ((((s.raise (0x03000008 + 4 * (k / 32)) (k % 32)).setFld (0x03000100 + 4 * k) 16 16 1).raise
      0x03000000 5).record 0x11 (leBytes 1 k ++ leBytes 2 last))
  else s.setFld (0x03000100 + 4 * k) 15 0 (BitVec.ofInt 16 t).toNat

/-- The effective temperature of a sample, once its readings are taken (R503, R505). -/
def State.effective (s : State) : Int :=
  let es := (List.range 48).filterMap (fun k =>
    if !s.sensorFailed k then some (sbitsOf (s.regN (0x03000100 + 4 * k)) 15 0)
    else if s.sensorMasked k then none else some (1648 : Int))
  let e := es.foldl max (-880)
  if thermDies.any (fun d => decide (2 ≤ (d.filter s.sensorFailed).length)) then max 1792 e else e

/-- The level after a sample from the counts of samples in a row at or above each threshold, the counts
below each fall, and the level in force (R503). -/
def thermLevel' (above below : List Nat) (level : Nat) : Nat :=
  (List.range 3).foldl (fun m i =>
    if 8 ≤ above.getD i 0 ∨ (i < level ∧ below.getD i 0 < 8) then i + 1 else m) 0

/-- `THERM_SHUTDOWN` is raised in this frame, for a level reached in frame `d`; `redo` is the sample that reached it,
where this frame took it (R509). -/
def State.raiseShutdown (s : State) (redo : State → State) (d : Nat) : State :=
  let up (s : State) : State :=
    let s1 := (s.raise 0x03000000 6).record 0x12 (leBytes 8 d ++ leBytes 8 s.frame)
    { s1 with modes := { s1.modes with shutdownAt := none } }
  (up s).deviceFault (fun s => up (redo s)) 0x02 (unitDetail 0x31 0)

/-- The level becomes SHUTDOWN in this frame: the shutdown is raised now, or at a boundary of RUN within
20,000 frames (R509). -/
def State.shutdownLevel (s : State) (redo : State → State) : State :=
  let next : Option Nat := match s.mode, s.boundaryFrom (s.frame + 1) with
    | .run, some b => if b ≤ s.frame + 20000 then some b else none
    | _, _ => none
  match s.mode, next with
  | .reset, _ => s
  | _, some b => { s with modes := { s.modes with shutdownAt := some b, shutdownFrom := s.frame } }
  | _, none => s.raiseShutdown redo s.frame

/-- The thermal level changes (R504, R507, R508). -/
def State.changeLevel (s : State) (old new : Nat) (e : Int) : State :=
  let s1 := ((s.setFld 0x03000000 1 0 new).count 0x0300001C 1).record 0x10
    (leBytes 1 old ++ leBytes 1 new ++ leBytes 2 (BitVec.ofInt 16 e).toNat)
  let s2 := if new = 2 then s1.raise 0x03000000 4 else s1
  if old < 2 ∧ 2 ≤ new then
    { s2 with therm := { s2.therm with
      entry := some (s.ticks : Int), syncrSeen := false, stopped := false, lastSkip := none } }
  else if new < 2 then { s2 with therm := { s2.therm with entry := none } }
  else s2

/-- The sensors are sampled, and the level follows (R502 to R505). -/
def State.takeSample (s : State) (temps : List Int) (selfFail : BitVec 48) : State :=
  let s1 := forEach (List.range 48) (fun k s =>
    s.takeReading k (temps.getD k 0) (selfFail.getLsbD k)) s
  let e := s1.effective
  let above := (List.range 3).map (fun i =>
    if thermTheta.getD i 0 ≤ e then s.therm.above.getD i 0 + 1 else 0)
  let below := (List.range 3).map (fun i =>
    if e < thermTheta.getD i 0 - 48 then s.therm.below.getD i 0 + 1 else 0)
  let old := s.fld 0x03000000 1 0
  let new := thermLevel' above below old
  let s2 := { s1 with therm := { s1.therm with
    above := above, below := below, sampled := if s.mode = .reset then none else some s.ticks } }
  if new = old then s2 else s2.changeLevel old new e

/-- THERMAL_SAMPLE: the sensors are sampled every 125,000 frames, or on the always-on timer in RESET, and the
level follows (R502 to R505, R509). -/
def execThermalSample (temps : List Int) (selfFail : BitVec 48) (s : State) :
    Host.Outcome State Fault Refusal :=
  .next (
    let due := match s.mode with
      | .reset => true
      | _ => decide (s.frame % 125000 = 0) && decide (s.therm.sampled ≠ some s.ticks)
    if !s.power.aon ∨ !due then s
    else
      let s1 := s.takeSample temps selfFail
      if s.fld 0x03000000 1 0 < 3 ∧ s1.fld 0x03000000 1 0 = 3 then
        s1.shutdownLevel (fun b => b.takeSample temps selfFail)
      else s1)

/-- The boundary whose round's mark is fixed in this frame (R507). -/
def State.markBoundary (s : State) : Nat := s.frame + 2 ^ 20 + 64

/-- ROUND_MARK: in frame K_r, round r is marked skipped when the four conditions of R507 hold; a routine
whose pending SYNCR chose its boundary is abandoned (R413). -/
def execRoundMark (s : State) : Host.Outcome State Fault Refusal :=
  .next (
    let b := s.markBoundary
    let r := s.roundAt b
    let t := s.therm
    match t.entry with
    | none => s
    | some e =>
      if s.isBoundary b ∧ s.mode ≠ .reset ∧ 2 ≤ s.fld 0x03000000 1 0 ∧ !t.stopped
          ∧ ((s.ticks : Int) < e + 10000000 ∨ t.syncrSeen)
          ∧ t.lastSkip.all (fun l => decide (l + s.fld 0x03000004 7 0 ≤ r))
          ∧ !t.chosen.contains b ∧ !t.skipped.contains r then
        let s1 := (s.skipRoutines b).count 0x03000018 1
        { s1 with therm := { s1.therm with
          lastSkip := some r, skipped := r :: t.skipped,
          chosen := t.chosen.filter (fun c => decide (b < c)) } }
      else { s with therm := { t with chosen := t.chosen.filter (fun c => decide (b < c)) } })

/-- NO_SYNCR: 10 ms after throttle entry without a SYNCR, marking stops (R508). -/
def execNoSyncr (s : State) : Host.Outcome State Fault Refusal :=
  .next (match s.therm.entry with
    | some e =>
      if e + 10000000 ≤ (s.ticks : Int) ∧ !s.therm.syncrSeen ∧ !s.therm.stopped then
        ({ s with therm := { s.therm with stopped := true } }).raise 0x03000000 7
      else s
    | none => s)

/-- THERM_SHUTDOWN: the deferred shutdown is raised at its boundary (R509). -/
def execThermShutdown (s : State) : Host.Outcome State Fault Refusal :=
  .next (match s.modes.shutdownAt with
    | some b => if b ≤ s.frame then s.raiseShutdown id s.modes.shutdownFrom else s
    | none => s)

end Sys2Proof.Machine
end

