-- ==== Sys2Proof/Machine/Modes.lean ====
section
/-!
DEFINITION. Power, RESET, BOOT and the mode changes (R40 to R67, R513 to R519, R548).
-/
namespace Sys2Proof.Machine

/-! ## RESET (R42, R47 to R51) -/

/-- The registers that keep their word through RESET: those of the always-on domain and of the NV die
(R67, R502, R505, R529, R533). -/
def keptAtReset (a : Nat) : Bool :=
  a = 0x48 || a = 0x03000800 || a = 0x03000804 || a = 0x03000808 || a = 0x03000820 || a = 0x03000824
    || a = 0x03000C08

/-- Whether a byte of memory is cleared at RESET: the Segment Directory, the graph banks and the control store,
whose words have a reset value (R268, R360, R425). -/
def clearedByte (a : Nat) : Bool :=
  decide (0x10000000 ≤ a ∧ a < 0x11000000 ∧ 0x50000 ≤ a % 0x100000 ∧ a % 0x100000 < 0x60000)
    || decide (0x60100000 ≤ a ∧ a < 0x60300000) || decide (0x90000000 ≤ a)

/-- A write in progress goes on through RESET, and no RECORDER_CLEAR waits for it any more (R50, R520). -/
def NvWrite.alone (w : NvWrite) : NvWrite :=
  match w with
  | .record slot l perm _ half => .record slot l perm none half
  | w => w

/-- The registers after RESET: those that keep their word, NV reset values that differ from those of a part as shipped, and
`BUSY` of a write that goes on (R12, R496, R512, R518, R564). -/
def State.resetRegs (s : State) : Sparse Word :=
  let busy : List (Nat × Word) := match s.bar.write with
    | some (.store b _ _) => [(aBias b 0x30, 2)]
    | some (.page _ _) => [(0x03000C04, 1)]
    | _ => []
  forEach (s.bar.nvReset ++ busy) (fun (r : Nat × Word) l => sset (resetWord r.1) l r.1 r.2)
    (s.regs.filter (fun r => keptAtReset r.1))

/-- The state of a device that has just entered RESET (R42, R50, R56, R67, R494, R502, R528): NV die, bias
outputs, recorder queue, tokens and thermal level go on, and every other register takes its reset value. -/
def State.cleared (s : State) : State :=
  let level := s.fld 0x03000000 1 0
  let s1 : State := { State.reset with
    pending := s.pending, mode := .reset, power := { s.power with converters := false }, boot := ⟨0, false, [], []⟩,
    regs := s.resetRegs, was := s.resetRegs,
    mem := s.mem.filter (fun c => !clearedByte c.1),
    biases := s.biases.map (fun (b : Nat × Bias) =>
      let x := b.2.shown s.ticks
      (b.1, { b.2 with
        live := recCode x, range := recRange x, stage := 0, holdFrom := 0, ball := x, coming := [], fault := false,
        ticked := none })),
    therm := { Therm.init with
      above := s.therm.above, below := s.therm.below, entry := s.therm.entry.map (fun e => e - (s.ticks : Int)),
      syncrSeen := s.therm.syncrSeen, stopped := s.therm.stopped },
    bar := { s.bar with
      queue := s.bar.queue.filter (fun r => r.clear.isNone), stores := [], page := none,
      write := s.bar.write.map NvWrite.alone, writeAt := 0, tai := none, clockNs := 0, streak := 0, tokenAt := [] },
    boots := s.boots + 1,
    freeCtr := s.freeCtr }
  s1.setFld 0x03000000 1 0 level

/-- Entry to RESET with a cause bit of `GLOBAL.RESET_CAUSE`: a RESET record is formed unless the device was
in RESET already (R42, R50, R67, R527). -/
def State.enterReset (s : State) (bit : Nat) : State :=
  let s1 := s.cleared.raise 0x48 bit
  if s.mode = .reset then s1 else s1.record 0x02 (leBytes 4 (s1.regN 0x48))

/-! ## BOOT (R513 to R519, R426) -/

/-- Whether slot `b` (0 FW_A, 1 FW_B) holds an image that passes R513. -/
def State.slotImage (s : State) (b : Nat) : Option Word :=
  match (if b = 0 then s.bar.imgA else s.bar.imgB) with
  | some v => if s.bar.minFw ≤ v then some v else none
  | none => none

/-- What a part of the boot chain does: the state it leaves, and, where it fails, the unit and detail code of the failure. -/
abbrev BootWork := State → State × Option (Nat × Nat)

/-- A part of the boot chain is done. It stands at the boundary of the frame too, so that a later fault of the frame keeps
it; where it fails, SAFE is entered with what it has done (R40, R42, R65, R515). -/
def State.bootRun (s : State) (cause : Nat) (work : BootWork) : State :=
  match work s with
  | (t, none) => { t with base := s.base.map (fun b => (work { toBody := b, pending := [], base := none }).1.toBody) }
  | (t, some d) => t.deviceFault (fun b => (work b).1) cause (unitDetail d.1 d.2)

/-- PATCH_AUTH_FAIL: a record of the image (0) or patch (1) that failed, its LEVEL and the failed check (R426, R514, R527;
log entry 45). -/
def State.authFail (s : State) (kind level check : Nat) : State × Option (Nat × Nat) :=
  (s.record 0x30 (leBytes 1 kind ++ leBytes 4 level ++ leBytes 1 check), some (0x40 + kind, check))

/-- A record of a patch: a word of the vendor region, or a vendor entry, with its new value (R425). -/
structure PatchRec where
  entry : Bool
  index : Nat
  value : Nat

/-- The records of a patch's plaintext; none where one of them addresses the customer region or a customer entry, or is
cut short (R425, R426; log entry 7). -/
def patchRecords (fuel : Nat) (l : List Byte) : Option (List PatchRec) :=
  match fuel, l with
  | _, [] => some []
  | 0, _ => none
  | fuel + 1, l =>
    let a := leAt l 0 2
    if a = 0xFFFF then
      if l.length < 8 ∨ 128 ≤ leAt l 2 2 then none
      else (patchRecords fuel (l.drop 8)).map (fun r => ⟨true, leAt l 2 2, leAt l 4 4⟩ :: r)
    else if l.length < 26 ∨ 12288 ≤ a then none
    else (patchRecords fuel (l.drop 26)).map (fun r => ⟨false, a, leAt l 2 24⟩ :: r)

/-- The patches that the PATCH area holds: each begins on a page, and the first page whose MAGIC is 0 ends them (log
entry 7). -/
def State.patches (s : State) (fuel o : Nat) : List (List Byte) :=
  match fuel with
  | 0 => []
  | fuel + 1 =>
    if leNat (s.nvRead o 4) = 0 then []
    else
      let n := 0x8C + leAt (s.nvRead o 0x8C) 12 4
      s.containerAt o 0x1600000 :: (if o + n < 0x1600000 then s.patches fuel (o + (n + 4095) / 4096 * 4096) else [])

/-- The LEVEL of a patch. -/
def patchLevel (l : List Byte) : Nat := leAt l 8 4

/-- The words and entries of a patch replace those of the vendor image. -/
def State.putPatch (s : State) (rs : List PatchRec) : State :=
  forEach rs (fun r s => { s with boot :=
    if r.entry then { s.boot with entries := sset none s.boot.entries r.index (some (BitVec.ofNat 32 r.value)) }
    else { s.boot with words := sset none s.boot.words r.index (some (BitVec.ofNat 192 r.value)) } }) s

/-- The records of a patch's plaintext. -/
def patchPlain (l : List Byte) : Option (List PatchRec) :=
  let n := leAt l 12 4
  patchRecords n ((List.range n).map (Config.plainByte l))

/-- The check of R426 that a patch fails, if it fails one: 0 to 5 of its container, 6 its LEVEL, 7 its records (log entry
45). -/
def State.patchCheck (s : State) (l : List Byte) : Option Nat :=
  match containerCheck 0x46514D50 l with
  | some k => some k
  | none => if s.bar.minPatch ≤ BitVec.ofNat 32 (patchLevel l) then
      (if (patchPlain l).isSome then none else some 7)
    else some 6

/-- A patch is applied, if it passes R426; its LEVEL raises the minimum (R425, R519). -/
def State.applyPatch (s : State) (l : List Byte) : Option State :=
  let level := BitVec.ofNat 32 (patchLevel l)
  if containerOk 0x46514D50 l && decide (s.bar.minPatch ≤ level) then
    (patchPlain l).map (fun rs =>
      let s1 := ((s.putPatch rs).setReg 0x90090000 level).record 0x32 (leBytes 4 level.toNat)
      { s1 with bar := { s1.bar with minPatch := level } })
  else none

/-- Patches are applied one by one, up to one that fails: that ends BOOT in SAFE with the host port up (R426). -/
def State.applyPatches (s : State) (ps : List (List Byte)) : State × Option (Nat × Nat) :=
  match ps with
  | [] => ({ s with boot := { s.boot with step := 4 } }, none)
  | p :: rest => match s.applyPatch p with
    | some t => t.applyPatches rest
    | none => s.authFail 1 (patchLevel p) ((s.patchCheck p).getD 0)

/-- Step 3 of R515: the microcode image and its patches in ascending LEVEL (R425). -/
def State.loadPatches : BootWork := fun s =>
  { s with boot := { s.boot with step := 3 } }.applyPatches (sortBy patchLevel (s.patches 1024 0x1200000))

/-- Steps 2 and 3 of R515 with an image of VERSION `v` from source `src`. -/
def State.firmware (s : State) (src : Nat) (v : Word) : State × Option (Nat × Nat) :=
  let s1 := (s.setReg 0x03000808 v).setFld 0x0300080C 1 0 src
  let s2 := { s1 with
    boot := { s1.boot with step := 2 },
    bar := { s1.bar with minFw := if s1.bar.minFw < v then v else s1.bar.minFw } }
  s2.recScan.newNonce.loadPatches

/-- The image of slot `b` in the NEXT slot becomes ACTIVE (R519). -/
def State.activate (s : State) (b : Nat) (v : Word) : State :=
  (s.setFld 0x03000C08 0 0 b).record 0x31 (leBytes 1 b ++ leBytes 4 v.toNat)

/-- The LEVEL field of slot `b`, and the check of R513 that its image fails: 0 to 5 of its container, 6 its VERSION (log
entry 45). -/
def State.slotCheck (s : State) (b : Nat) : Nat × Nat :=
  let o := if b = 0 then 0x200000 else 0xA00000
  let l := s.containerAt o (o + 0x800000)
  (leAt l 8 4, (containerCheck 0x46514657 l).getD 6)

/-- Step 1 of R515 from the NV die: the NEXT slot where it differs from ACTIVE, which becomes ACTIVE once verified, the
ACTIVE slot, or the other one (R514, R519). -/
def State.bootSlots : BootWork := fun s =>
  let active := s.fld 0x03000C08 0 0
  let next := s.fld 0x03000C08 8 8
  match (if next = active then none else s.slotImage next), s.slotImage active, s.slotImage (1 - active) with
  | some v, _, _ => (s.activate next v).firmware next v
  | none, some v, _ => s.firmware active v
  | none, none, some v => s.firmware (1 - active) v
  | none, none, none =>
    let last := s.slotCheck (1 - active)
    s.authFail 0 last.1 last.2

/-- The ROM boots from the NV die. -/
def State.bootNv (s : State) : State := s.bootRun 0x01 State.bootSlots

/-- 10 ms after the release of RESET_N a ROM that the host has sent no BOOT_LOAD takes the NV die (R514). -/
def State.bootWindow (s : State) : State :=
  if s.mode = .boot ∧ s.boot.step = 1 ∧ !s.boot.loading ∧ 10000000 ≤ s.frame then s.bootNv else s

/-- The bias fields at the release of RESET_N (R494, R496). -/
def State.bootBias (s : State) (b : Nat) : State :=
  let x := s.bias b
  let cfg := BitVec.ofNat 32 (withBits (resetWord (aBias b 0)).toNat 1 0 x.range.toNat)
  let code := x.live.setWidth 32
  let s1 := ((s.setReg (aBias b 0) cfg).setReg (aBias b 4) code).setReg (aBias b 0x28) (x.nvPwrup.setWidth 32)
  let s2 := s1.setReg (aBias b 0x2C) (x.nvFault.setWidth 32)
  let sh := sset (resetWord (aBias b 0)) s2.shadow (aBias b 0) cfg
  { s2 with shadow := sset (resetWord (aBias b 4)) sh (aBias b 4) code }

/-- BOOT begins at frame 0 (R19, R42, R494, R509, R514): the ROM waits 10 ms for BOOT_LOAD, and for an image on its way
where `loading`. -/
def State.startBoot (s : State) (loading : Bool) : State :=
  let s1 : State := { s with mode := .boot, frame := 0, phase := 0, base := none, boot := ⟨1, loading, [], []⟩ }
  let s2 := forEach (List.range 64) (fun b s => s.bootBias b) s1
  if s2.fld 0x03000000 1 0 = 3 then s2.raiseShutdown id 0 else s2

/-- BOOT begins where nothing holds the device in RESET any more. -/
def State.tryBoot (s : State) : State :=
  let p := s.power
  match s.mode with
  | .reset =>
    if p.aon && p.rails && p.resetN && p.refclk && !p.mustCycle then
      s.startBoot false
    else s
  | _ => s

/-- A warm reset from inside the device, with its cause bit (R65, R517). -/
def State.warmReset (s : State) (bit : Nat) : State := (s.enterReset bit).tryBoot

/-! ## Events of supplies and clocks -/

/-- ALWAYS_ON_RAIL_VALID: the device enters RESET (R42); POR is set and the other causes clear (R66, R67);
the power-cycle count increases (R529), and the buckets are full (R528). -/
def execAlwaysOnRailValid (s : State) : Host.Outcome State Fault Refusal :=
  .next (
    if s.power.aon then s
    else
      let s1 := ({ s with mode := .reset }).cleared
      let s2 := { s1 with
        power := { s1.power with aon := true },
        bar := { s1.bar with tokens := [], suppressed := [], queue := [], write := none, railFrames := 0 },
        therm := Therm.init }
      (((s2.setFld 0x03000000 1 0 0).setReg 0x48 1).setRegN 0x03000824 (s.regN 0x03000824 + 1)).record 0x01
        (leBytes 1 (b2n s.power.rails)))

/-- RESET_N_LOW: the device enters RESET (R42, R47, R50). -/
def execResetNLow (s : State) : Host.Outcome State Fault Refusal :=
  .next (
    if !s.power.aon || !s.power.resetN then s
    else ({ s with power := { s.power with resetN := false } }).enterReset 1)

/-- RAIL_OUT_OF_WINDOW: the device enters RESET until RESET_N has been cycled (R49). -/
def execRailOutOfWindow (s : State) : Host.Outcome State Fault Refusal :=
  .next (
    if !s.power.aon || !s.power.rails then s
    else ({ s with power := { s.power with rails := false, mustCycle := true } }).enterReset 2)

/-- ALWAYS_ON_RAIL_FALL: the device is unpowered, and every BIAS output high-impedance (R51, R54). -/
def execAlwaysOnRailFall (s : State) : Host.Outcome State Fault Refusal :=
  .next (
    if !s.power.aon then s
    else
      let s1 := s.cleared
      { s1 with
        power := ⟨false, false, s1.power.resetN, s1.power.refclk, false, false⟩,
        bar := { s1.bar with write := none, railFrames := 0 },
        biases := (List.range 64).foldl (fun l b =>
          supd .init l b (fun x => { x with driven := false, live := 0, range := 0, ball := 0, coming := [] })) s1.biases })

/-- RAIL_VALID: every other rail is inside its window (R48); BOOT begins if RESET_N is already released
(R42). -/
def execRailValid (s : State) : Host.Outcome State Fault Refusal :=
  .next (
    if !s.power.aon || s.power.rails then s
    else ({ s with power := { s.power with rails := true } }).tryBoot)

/-- RESET_N_RELEASE: BOOT begins where the rails are valid and REFCLK is present (R42, R47, R49, R515).
`spiBoot` says that the host begins a BOOT_LOAD in time, whose image may take longer (R514). -/
def execResetNRelease (spiBoot : Bool) (s : State) : Host.Outcome State Fault Refusal :=
  .next (
    if !s.power.aon || s.power.resetN then s
    else
      let good := s.power.rails && s.power.refclk
      let s1 := { s with power := { s.power with
        resetN := true, mustCycle := s.power.mustCycle && !good } }
      if good then s1.startBoot spiBoot else s1)

/-- WDOG: the Barista's watchdog expires and the device takes a warm reset (R517); the last checkpoint in
the record is free. -/
def execWdog (s : State) : Host.Outcome State Fault Refusal :=
  .next (
    if !s.baristaRuns then s
    else
      let (n, s1) := s.fresh
      (s1.record 0x08 (leBytes 4 (Config.freeWord n).toNat)).warmReset 4)

/-- REFCLK_LOSS: CLK_LOCKED clears and a device fault is raised (R548); in BOOT it only keeps the device
from READY. -/
def execRefclkLoss (s : State) : Host.Outcome State Fault Refusal :=
  .next (
    if !s.power.refclk then s
    else
      let s1 := { s with power := { s.power with refclk := false } }
      match s.mode with
      | .reset => s1
      | .boot => s1.setFld 0x11C 0 0 0
      | _ =>
        let lost (s : State) : State := { s with power := { s.power with refclk := false } }.setFld 0x11C 0 0 0
        (lost s).deviceFault lost 0x07 (unitDetail 0x42 0))

/-- REFCLK_RETURN: the PLLs lock again, and BOOT begins where only REFCLK was missing (R42, R548). -/
def execRefclkReturn (s : State) : Host.Outcome State Fault Refusal :=
  .next (
    if s.power.refclk then s
    else
      let s1 := { s with power := { s.power with refclk := true } }
      match s.mode with
      | .reset => s1.tryBoot
      | .boot => s1
      | _ => if s1.boot.step = 5 then s1.setFld 0x11C 0 0 1 else s1)

/-- The check of R513 that an image over the SPI fails, if it fails one (log entry 45). -/
def State.imageCheck (s : State) (image : Image) : Option Nat :=
  if !image.sigOk then some 0
  else if !image.tagOk then some 1
  else if image.magic ≠ 0x46514657 then some 2
  else if image.format ≠ 1 then some 3
  else if image.stepping ≠ 0xB1 then some 4
  else if image.level < s.bar.minFw then some 6
  else none

/-- Steps 1 to 3 of R515 with an image over the SPI; one that fails is not replaced by an NV image (R513, R514). -/
def State.bootImage (image : Image) : BootWork := fun s =>
  match s.imageCheck image with
  | none => s.firmware 2 image.level
  | some k => s.authFail 0 image.level.toNat k

/-- BOOT_LOAD: an SPI image that the host began to send within 10 ms of the release is verified and started in place of
an NV image (R513, R514). -/
def execBootLoad (image : Image) (s : State) : Host.Outcome State Fault Refusal :=
  .next (
    if s.mode = .boot ∧ s.boot.step = 1 ∧ (s.boot.loading ∨ s.frame < 10000000) then
      s.bootRun 0x01 (State.bootImage image)
    else s)

/-- BOOT_DONE: after step 3 of R515, calibration and the locking of the PLLs end BOOT in READY, or in SAFE (R42,
R515). -/
def execBootDone (calOk : Bool) (s : State) : Host.Outcome State Fault Refusal :=
  .next (
    if s.mode ≠ .boot ∨ s.boot.step ≠ 4 ∨ !s.power.refclk then s
    else if !calOk then s.enterSafe 0x07 (unitDetail 0x43 0)
    else
      let s1 := { s with
        mode := .ready, boot := { s.boot with step := 5 }, modes := { s.modes with since := s.ticks },
        power := { s.power with converters := true } }
      (s1.setFld 0x11C 0 0 1).record 0x03 (leBytes 1 (s1.fld 0x0300080C 1 0)
        ++ leBytes 4 (s1.regN 0x03000808) ++ leBytes 4 (s1.regN 0x90090000)))

/-! ## Mode requests (R43, R60 to R65, R99) -/

/-- The refusal of a request by code in the mode in force (R43, R66): `spi` for the management SPI. -/
def State.modeReqBad (s : State) (req : Nat) (spi : Bool) : Option Status :=
  let bad (ok : Bool) : Option Status := if ok then none else some .modeRefused
  match req with
  | 1 => bad (decide (s.mode = .ready))
  | 2 => bad (decide (s.mode = .sleep))
  | 3 => bad (decide (s.mode ≠ .safe))
  | 4 => bad spi
  | _ => none

/-- A wake is accepted in this frame (R61, R62). -/
def State.wake (s : State) : State :=
  if s.modes.wakeAt.isSome then s
  else { s with
    modes := { s.modes with wakeAt := some (s.frame + 350000) },
    power := { s.power with converters := true } }

/-- A request written to `GLOBAL.MODE_REQ`, once its WRITE has completed (R42, R61, R65, R132); `redo` is that WRITE. -/
def State.modeReqWritten (s : State) (redo : State → State) (req : Nat) : State :=
  match req with
  | 1 => { s with modes := { s.modes with sleepAt := some (s.frame + 1) } }
  | 2 => s.wake
  | 3 => s.deviceFault redo 0x06 (unitDetail 0x44 0)
  | 4 => s.warmReset 3
  | _ => s

/-- The command `t` is taken in, also where it came after the boundary of this frame (R86, R132). -/
def State.settled (s : State) (t : Taken) : State :=
  let h := s.hq t.cmd.queue.val
  if (h.waiting ++ h.active).any (fun x => decide (x.order = t.order)) then s
  else { (s.modHq t.cmd.queue.val (fun h => { h with expect := t.cmd.seq + 1 })) with
    host := { (s.modHq t.cmd.queue.val (fun h => { h with expect := t.cmd.seq + 1 })).host with
      order := max s.host.order (t.order + 1) } }

/-- The MODE command `t`, as it starts (R43, R99, R107, R132). -/
def State.modeCommand (s : State) (t : Taken) : State :=
  let req := t.cmd.arg.toNat
  if !t.cmd.payload.isEmpty then s.complete t .lengthRefused []
  else match (if req = 4 then some .modeRefused
      else if req = 0 ∨ 4 < req then some .rangeRefused else s.modeReqBad req false : Option Status) with
    | some st => s.complete t st []
    | none =>
      if req = 1 then
        { s with modes := { s.modes with sleepAt := some (s.frame + 1), sleepCmd := some t } }
      else if req = 2 then
        let s1 := s.wake
        { s1 with modes := { s1.modes with wakers := s1.modes.wakers ++ [t] } }
      else
        let done (s : State) : State := (s.settled t).complete t .ok (leBytes 8 s.frame)
        (done s).deviceFault done 0x06 (unitDetail 0x44 0)

/-- SLEEP_ENTRY: in the frame after acceptance the device enters SLEEP (R60, R371); a request that an
earlier START of this frame supersedes is aborted (R44, R132). -/
def execSleepEntry (s : State) : Host.Outcome State Fault Refusal :=
  .next (
    match s.modes.sleepAt with
    | none => s
    | some f =>
      if s.frame < f then s
      else
        let cmd := s.modes.sleepCmd
        let s1 := { s with modes := { s.modes with sleepAt := none, sleepCmd := none } }
        match s.mode with
        | .ready =>
          let s2 := (s1.flushStream false).flushStream true
          let s3 := forEach (List.range 64) (fun t s => if s.traceOpen t then s.flushTrace t else s) s2
          let s4 := { s3.dropPauli with
            mode := .sleep,
            modes := { s3.endStretch.modes with safeFrame := s.ticks },
            power := { s3.power with converters := false },
            slots := s3.slots.map (fun (x : Nat × Slot) => (x.1, { x.2 with wins := [], codes := [], hands := [] })) }
          match cmd with
          | some t => s4.complete t .ok (leBytes 8 s.frame)
          | none => s4
        | _ => match cmd with
          | some t => s1.complete t .aborted []
          | none => s1)

/-- Whether this frame of SLEEP is a wake frame by `GLOBAL.WAKE_AT` (R61, R63, R66). -/
def State.wakeDue (s : State) : Bool :=
  decide (s.mode = .sleep) && decide (s.fld 0x4C 0 0 = 1) && decide (s.reg64 0x50 ≤ s.frame)

/-- WAKE_AT: in SLEEP the counter has reached `GLOBAL.WAKE_AT`. The device's clear of the enable stands against a write of
the frame, and during the wake a write that sets the enable is no wake of its own (R61, R63, R66, R539). -/
def execWakeAt (s : State) : Host.Outcome State Fault Refusal :=
  .next (
    if s.wakeDue then
      match s.modes.wakeAt with
      | none => s.wake.setFld 0x4C 0 0 0
      | some f => if f = s.frame + 350000 then s.setFld 0x4C 0 0 0 else s
    else s)

/-- The syndrome engine's previous checks and the history window are cleared (R357). -/
def State.clearChecks (s : State) : State := { s with perc := { s.perc with prev := [], hist := [] } }

/-- WAKE_COMPLETE: 350,000 frames after the wake frame the device is in READY, with chains initialised
(R61, R107, R247, R297, R357). -/
def execWakeComplete (s : State) : Host.Outcome State Fault Refusal :=
  .next (
    match s.modes.wakeAt with
    | none => s
    | some f =>
      if s.frame < f then s
      else
        let cmds := s.modes.wakers
        let s1 := { s with mode := .ready, modes := { s.endSleep.modes with wakeAt := none, wakers := [], moved := some f, since := s.ticks } }
        let s2 := forEach (List.range 1024) (fun i s => s.clearChain i) s1.idleChains.clearChecks
        forEach cmds (fun t s => s.complete t .ok (leBytes 8 s.frame)) s2)

/-! ## START and STOP (R45, R98, R563) -/

/-- The START command `t`, as it starts (R43, R98, R462, R509). -/
def State.startCommand (s : State) (t : Taken) : State :=
  let f := leAt t.cmd.payload 0 8
  if t.cmd.payload.length ≠ 8 then s.complete t .lengthRefused []
  else if t.cmd.arg ≠ 0 then s.complete t .rangeRefused []
  else if s.mode ≠ .ready ∨ s.modes.shutdownAt.isSome ∨ s.fld 0x04000010 0 0 = 1 ∨ s.sync.reloadAt.isSome then
    s.complete t .modeRefused []
  else if f < s.frame + 64 then s.complete t .lateStart []
  else { s with modes := { s.modes with starts := s.modes.starts ++ [⟨f, t⟩] } }

/-- The STOP command `t`, as it starts (R43, R98, R509). -/
def State.stopCommand (s : State) (t : Taken) : State :=
  if t.cmd.payload.length ≠ 8 then s.complete t .lengthRefused []
  else if t.cmd.arg ≠ 0 then s.complete t .rangeRefused []
  else if s.mode ≠ .run ∨ s.modes.shutdownAt.isSome then s.complete t .modeRefused []
  else
    let f := max (leAt t.cmd.payload 0 8) (s.frame + 64)
    { s with modes := { s.modes with stops := s.modes.stops ++ [⟨f, t⟩] } }

/-- A sequencer begins at its entry (R144); the stamp counts of R155 start anew (DESIGN CHOICE, log entry 61). -/
def State.startSeq (s : State) (q : Nat) : State :=
  if s.fld (aSeq q 0) 0 0 = 1 ∧ !s.contained (q / 8) then
    s.modSeq q (fun x => { Seq.init with
      pc := BitVec.ofNat 16 (s.fld (aSeq q 4) 15 0), tl := BitVec.ofNat 64 (s.frame + 64), state := 1,
      nextIssue := s.frame, lastNotify := x.lastNotify })
  else s.modSeq q Seq.halted

/-- 1,024 words of the vendor tracker library; what they hold is not stated, so each is free. -/
def State.loadLibrary (s : State) (c : Nat) : State :=
  forEach [0x40000, 0x80000, 0xC0000] (fun o s => forEach (List.range 1024) (fun i s =>
    let (n, s1) := s.fresh
    s1.setMemWord (aRd c (o + 4 * (15360 + i))) (Config.freeWord n).toNat) s) s

/-- A read-out core begins (R316, R342); the vendor library lets interrupts in from the start (R431; log entry 18). -/
def State.startRdsp (s : State) (c : Nat) : State :=
  let assist := s.fld (aRd c 0) 1 1 = 1
  let s1 := if assist then s.loadLibrary c else s
  let (n, s2) := s1.fresh
  let r : Rdsp := { Rdsp.init with sr := 0x0100, srOld := 0x0100, frameHi := (s.rd c).frameHi, roundHi := (s.rd c).roundHi }
  if s.fld (aRd c 0) 0 0 = 1 ∧ !s.contained c then
    s2.modRd c (fun _ => { r with
      state := 1, nextIssue := s.frame,
      pc := if assist then BitVec.ofNat 14 (15360 + (Config.freeWord n).toNat % 1024) else 0 })
  else s2.modRd c (fun x => { x.stopped with queue := [], roundReq := false, mboxReq := false })

/-- RUN begins in this frame (R45, R144, R280, R316, R357, R430). -/
def State.beginRun (s : State) : State :=
  let s1 := { s.clearChecks with mode := .run, trks := [], mes := [], modes := { s.modes with moved := some s.frame } }
  let s2 := forEach (List.range 128) (fun q s => s.startSeq q) s1
  forEach (List.range 16) (fun c s =>
    let s1 := (s.startRdsp c).setFld (aCl c 0xC08) 8 8 0
    let en := s1.fld (aCl c 0x2000) 3 0
    if (bitOf en 1 || bitOf en 3) && s1.fld (aRd c 0) 1 1 = 0 then s1.raise (aCl c 0x2004) 4 else s1) s2

/-- START_FRAME: at its start frame a START is judged again and RUN begins, unless a cause of higher precedence has
changed the mode in this frame (R42, R44, R144, R563). -/
def execStartFrame (s : State) : Host.Outcome State Fault Refusal :=
  .next (
    let due := s.modes.starts.filter (fun p => decide (p.frame ≤ s.frame))
    let s1 := { s with modes := { s.modes with
      starts := s.modes.starts.filter (fun p => decide (s.frame < p.frame)) } }
    forEach due (fun p s =>
      if s.mode = .ready ∧ s.modes.moved ≠ some s.frame then s.beginRun.complete p.cmd .ok (leBytes 8 p.frame)
      else s.complete p.cmd .modeRefused []) s1)

/-- RUN ends in this frame (R45, R273, R317, R415, R441). -/
def State.endRun (s : State) : State :=
  let f := s.frame
  let s1 := forEach (List.range 128) (fun q s => s.modSeq q Seq.halted) s.dropPending
  let s2 := forEach (List.range 16) (fun c s => ((s.modMe c Me.emptied).modRd c Rdsp.stopped).abortShots c) s1
  let s3 := forEach (skeys s2.tqueues) (fun k s => s.modTq k (fun q =>
    ⟨q.flight.filter (fun e => decide (e.t < f)), q.held.filter (fun e => decide (e.t < f))⟩)) s2
  { s3 with
    mode := .ready,
    modes := { s2.modes with moved := some f },
    commits := s2.commits.filter (fun p => p.host.isSome || decide (p.frame < f)),
    plays := s2.plays.map (fun (k : Nat × Play) => (k.1, { k.2 with selected := true, succ := none })),
    trks := [] }

/-- STOP_FRAME: at its stop frame a STOP is judged again and RUN ends, unless a START accepted before it has begun it
in this frame (R42, R44, R45, R563). -/
def execStopFrame (s : State) : Host.Outcome State Fault Refusal :=
  .next (
    let due := s.modes.stops.filter (fun p => decide (p.frame ≤ s.frame))
    let s1 := { s with modes := { s.modes with
      stops := s.modes.stops.filter (fun p => decide (s.frame < p.frame)) } }
    forEach due (fun p s =>
      if s.mode = .run ∧ s.modes.moved ≠ some s.frame then s.endRun.complete p.cmd .ok (leBytes 8 p.frame)
      else s.complete p.cmd .modeRefused []) s1)

end Sys2Proof.Machine
end

