-- ==== Sys2Proof/Machine/Trackers.lean ====
section
/-!
DEFINITION. The trackers: the arbiter and the quanta of a shot (R432 to R437), and the updates that a batch
forms (R438 to R440).
-/
namespace Sys2Proof.Machine

/-! ## Items of FREQ and FLUX -/

/-- The drive voice, probe voice and slot of an item, as target keys (R432). -/
def State.shotTargets (s : State) (c i : Nat) : List Nat :=
  let w := s.itemWord c i 0
  let q := bitsOf w 9 0
  let sl := bitsOf w 25 16
  [tkey (q / 64) (q % 64), tkey (sl / 64) (96 + sl % 64), tkey (sl / 64) (160 + sl % 64)]

/-- The directory entries HSEG and PSEG of an item. -/
def State.shotSegs (s : State) (c i : Nat) : Nat × Nat :=
  let w := s.itemWord c i 1
  (bitsOf w 15 0, bitsOf w 31 16)

/-- Frames of stretch `k` of an item's shot (R432). -/
def State.stretchLen (s : State) (c i k : Nat) : Nat :=
  let w2 := s.itemWord c i 2
  match k with
  | 0 => 16
  | 1 => bitsOf w2 15 0
  | 2 => 16
  | 3 => max (4 * (s.entry (s.shotSegs c i).2).len) (bitsOf w2 29 16)
  | 4 => bitsOf (s.itemWord c i 4) 31 16
  | _ => 0

/-- The first stretch at or after `k` that has frames; 5 when there is none. -/
def State.nextStretch (s : State) (c i k fuel : Nat) : Nat :=
  match fuel with
  | 0 => 5
  | fuel + 1 => if 5 ≤ k ∨ 0 < s.stretchLen c i k then k else s.nextStretch c i (k + 1) fuel

/-- Frames of a whole shot. -/
def State.shotLen (s : State) (c i : Nat) : Nat := ((List.range 5).map (fun k => s.stretchLen c i k)).sum

/-- Whether an item's shot may be made at all: its targets belong to the cluster, and its segments pass
their checks (R431, R432). -/
def State.itemOk (s : State) (c trk i : Nat) : Bool :=
  let h := s.entry (s.shotSegs c i).1
  let p := s.entry (s.shotSegs c i).2
  let t := s.shotTargets c i
  t.all (fun k => decide (k / 256 = c))
    && decide (h.len = 4) && s.entryPlays h c (t.getD 0 0 % 256) false
    && s.entryPlays p c (t.getD 1 0 % 256) false
    && (trk = 0 || decide (bitsOf (s.itemWord c i 4) 8 0 / 32 = c))

/-! ## Arbitration (R434 to R437) -/

/-- The frames of the play timeline an event covers for the arbiter (R434). -/
def State.evSpan (s : State) (e : Ev) : Nat × Nat :=
  match e.kind with
  | .cplay p =>
    let len (null : Bool) (seg : Nat) : Nat := if null then 0 else (s.entry seg).len
    (e.t, e.t + max 1 (4 * max (len p.n0 p.seg0) (len p.n1 p.seg1)))
  | _ => (e.t, e.t + 1)

/-- The segments that an event may start. -/
def evSegs (k : EvKind) : List Nat :=
  match k with
  | .play seg _ | .flux seg _ | .probe seg _ _ _ => [seg]
  | .cplay p => (if p.n0 then [] else [p.seg0]) ++ (if p.n1 then [] else [p.seg1])
  | _ => []

/-- Whether two spans of frames meet. -/
def spansMeet (a b : Nat × Nat) : Bool := decide (a.1 < b.2 ∧ b.1 < a.2)

/-- Whether a directory entry has a successor. -/
def Entry.chains (e : Entry) : Bool := e.succEn || e.condEn

/-- What plays on target `k` in this frame besides the segments of trackers, with its ticks: the segment in force, or the
successor that begins in this frame where that has ended (R270, R434). -/
def State.playsOn (s : State) (k : Nat) : Option (Entry × Nat × Nat) :=
  match s.playOn k with
  | none => none
  | some p =>
    if p.upTo.isSome then none
    else if s.ticks < p.fin then some (p.entry, p.t, p.fin)
    else p.succ.map (fun e => (e, p.fin, p.fin + 4 * e.len))

/-- Whether target `k` is free for the frames of `span`, for a shot whose own window opened in tick `own` (R434). The
segment of another tracker's quantum counts with the frames granted to it. -/
def State.targetFree (s : State) (k : Nat) (span : Nat × Nat) (own : Option Nat) : Bool :=
  let c := k / 256
  let held := (s.tq k).held
  !held.any (fun e => spansMeet (s.evSpan e) span || (evSegs e.kind).any (fun g => (s.entry g).chains))
    && (match s.playsOn k with
        | some (e, a, b) => !spansMeet (a, b) (s.ticks + span.1 - s.frame, s.ticks + span.2 - s.frame) && !e.chains
        | none => true)
    && (match tgtKind (k % 256) with
        | .slot => !(s.slot (tgtChan c (k % 256))).wins.any (fun w =>
            spansMeet (w.tick, w.tick + w.len) (s.ticks + span.1 - s.frame, s.ticks + span.2 - s.frame) && !(w.trk.isSome && some w.tick == own))
        | _ => true)
    && !(s.trk c).spans.any (fun x => x.1 = k && spansMeet x.2 span)
    && !bitOf (s.regN (aCl c 0xC08)) 8 && !s.contained c

/-- Whether a quantum of `q` frames can start in this frame on the targets of an item (R435). -/
def State.quantumFree (s : State) (ts : List Nat) (q : Nat) (own : Option Nat) : Bool :=
  ts.all (fun k => s.targetFree k (s.frame, s.frame + q + 4) own)

/-- Whether no queue of the targets holds a play-class entry inside the span of a whole shot (R435). -/
def State.shotFree (s : State) (ts : List Nat) (n : Nat) : Bool :=
  ts.all (fun k => !(s.tq k).held.any (fun e => e.kind.isPlay && decide (s.frame ≤ e.t ∧ e.t < s.frame + n)))

/-- The limit of a shot of tracker `trk` that starts in this frame: none with OPP, else the end of the windows that allow
it; no answer where none does or where not even its first quantum fits (R437). -/
def State.shotWindow (s : State) (c trk : Nat) (ts : List Nat) : Option (Option Nat) :=
  let ws := (s.trk c).wins.filter (fun w => bitOf w.mask.toNat trk && decide (w.first ≤ s.frame ∧ s.frame + 16 ≤ w.last)
    && ts.all (fun k => w.targets.contains (k % 256)))
  if bitOf (s.fld (aCl c 0x2000) 11 8) trk then some none
  else if ws.isEmpty then none
  else some (some (ws.foldl (fun m w => max m w.last) 0))

/-- Whether the engine of cluster `c` is free for tracker routines (R418). -/
def State.meFree (s : State) (c : Nat) : Bool :=
  let m := s.me c
  m.run.isNone && m.hostReq.isNone && m.again.isNone && m.reqs.isEmpty && decide (m.freeAt ≤ s.frame)

/-- Whether a tracker routine of cluster `c` can have asked, 2 frames ago and in its first word, for a shot that starts
in this frame (R408, R435). -/
def State.asksNow (s : State) (c : Nat) : Bool :=
  let t := s.trk c
  s.meFree c && t.shots.isEmpty && !t.yielded && decide ((s.me c).freeAt + 2 ≤ s.frame)
    && s.modes.moved.all (fun b => decide (b + 2 ≤ s.frame)) && (decide (t.from_ ≤ s.frame) || t.asked == some s.frame)

/-- A tracker routine that has yielded goes on 2 frames after the routine that interrupted it completed (R413, R415). -/
def State.resumeTrackers (s : State) (c : Nat) : State :=
  if (s.trk c).yielded && s.meFree c && decide ((s.me c).freeAt + 1 ≤ s.frame) then
    (s.modTrk c (fun t => { t with yielded := false, from_ := s.frame + 2 })).count (aCl c 0x100C) 1
  else s

/-! ## Quanta -/

/-- A shot is abandoned: its window ends with the quanta granted, and gives no code (R435). -/
def State.dropShot (s : State) (c : Nat) (x : Shot) : State :=
  let s1 := s.modTrk c (fun t => { t with shots := t.shots.filter (fun y => y ≠ x), from_ := s.frame + 3 })
  let fin := s.ticks + (x.at_ - s.frame)
  (s1.modSlot (bitsOf (s.itemWord c x.item 0) 25 16) (fun l => { l with wins := l.wins.map (fun w =>
    if w.trk.isSome ∧ x.win = some w.tick then { w with noCode := true, len := min w.len (fin - w.tick) }
    else w) })).countAbort c

/-- A shot changes. -/
def State.putShot (s : State) (c : Nat) (x y : Shot) : State :=
  s.modTrk c (fun t => { t with shots := t.shots.map (fun z => if z = x then y else z) })

/-- What a stretch of an item's shot plays: target, directory entry, frequency slot and added phase (R432). -/
def State.stretchSeg (s : State) (c : Nat) (x : Shot) : Option (Nat × Nat × Nat × Word) :=
  let ts := s.shotTargets c x.item
  let segs := s.shotSegs c x.item
  let fs := bitsOf (s.itemWord c x.item 0) 14 10
  match x.stretch with
  | 0 => some (ts.getD 0 0, segs.1, fs, 0)
  | 2 => some (ts.getD 0 0, segs.1, fs, if x.plus then 0x40000000 else 0xC0000000)
  | 3 => some (ts.getD 1 0, segs.2, bitsOf (s.itemWord c x.item 3) 28 24, 0)
  | _ => none

/-- The quantum of a stretch plays until tick `u`: with its first quantum the stretch's segment begins, and triggers no
marker; later ones let it go on (R268, R269, R433). -/
def State.playStretch (s : State) (c : Nat) (x : Shot) (u : Nat) : State :=
  match s.stretchSeg c x with
  | none => s
  | some (k, idx, slot, phase) =>
    if x.pos = 0 then
      let e := s.entry idx
      if s.entryPlays e c (k % 256) false then
        s.putSegment c (k % 256) { Play.start 0 e s.ticks slot with selected := true, phase := phase, upTo := some u }
      else s.dirInvalid c
    else match s.playOn k with
      | some p => if p.upTo.isSome then s.setPlay k { p with upTo := some u } else s
      | none => s

/-- The read-out window of a shot opens with its fourth stretch (R432, R433). -/
def State.openShotWindow (s : State) (c : Nat) (x : Shot) : State :=
  if x.stretch = 3 ∧ x.pos = 0 then
    let sl := bitsOf (s.itemWord c x.item 0) 25 16
    let len := bitsOf (s.itemWord c x.item 2) 29 16
    s.modSlot sl (fun l => { l with
      wins := l.wins ++ [s.newWindow sl len false false (some (x.trk, x.item, x.plus))] })
  else s

/-- The directory entries that the arbiter reads to judge the targets `ts` (R434). -/
def State.arbiterReads (s : State) (ts : List Nat) : List Nat :=
  ts.flatMap (fun k => (s.tq k).held.flatMap (fun e => evSegs e.kind))

/-- The arbiter's answer to the request of a shot for its next quantum: the quantum is granted, or the
shot is abandoned (R435, R437); `ecc` is what the reads of directory entries meet. -/
def State.askQuantum (s : State) (c : Nat) (x : Shot) (ecc : Ecc) : State :=
  let len := if x.pos = 0 then s.stretchLen c x.item x.stretch else x.len
  let q := min 16 (len - x.pos)
  let ts := s.shotTargets c x.item
  let no := decide (s.frame ≠ x.at_) || x.limit.any (fun l => decide (l < s.frame + q)) || !s.quantumFree ts q x.win
  let seg := if no || decide (x.pos ≠ 0) then [] else ((s.stretchSeg c x).map (fun g => g.2.1)).toList
  s.guardDirs ecc (s.arbiterReads ts ++ seg) (fun s =>
    if no then s.dropShot c x
    else
    let pos := x.pos + q
    let ended := decide (len ≤ pos)
    let y := { x with
      stretch := if ended then s.nextStretch c x.item (x.stretch + 1) 5 else x.stretch, len := len,
      pos := if ended then 0 else pos, at_ := s.frame + q,
      win := if x.stretch = 3 ∧ x.pos = 0 then some s.ticks else x.win }
    let s1 := (s.putShot c x y).modTrk c (fun t => { t with
      spans := t.spans ++ ts.map (fun k => (k, s.frame, s.frame + q)) })
    (s1.openShotWindow c x).playStretch c x (s.ticks + q))

/-- The last quantum of a shot has played: the shot is complete, and its state code is counted once there is one
(R438). -/
def State.endShot (s : State) (c : Nat) (x : Shot) : State :=
  let s1 := ((s.modTrk c (fun t => { t with
      shots := t.shots.filter (fun y => y ≠ x), from_ := s.frame + 2 })).count (aCl c 0x2008) 1).modBatch c
    x.trk x.item (fun b => { b with shots := b.shots + 1 })
  match x.code with
  | some one => s1.countShot c x.trk x.item x.plus one
  | none => s1

/-- A new shot's first quantum is granted or refused, where a routine asks for one (R418, R432, R435, R437, R506). -/
def State.startShot (s : State) (c trk i : Nat) (ecc : Ecc) : State :=
  let ts := s.shotTargets c i
  let b := s.batch c trk i
  if !s.itemRuns c trk i || decide (2 ≤ s.thermLevel) || !s.asksNow c || decide (2 * s.itemM c trk i ≤ b.shots) then s
  else s.guardDirs ecc ([(s.shotSegs c i).1, (s.shotSegs c i).2] ++ s.arbiterReads ts) (fun s =>
    if !s.itemOk c trk i then s.raise (aCl c 0x2004) 3
    else match s.shotWindow c trk ts with
      | none => s
      | some limit =>
        if s.quantumFree ts 16 none && s.shotFree ts (s.shotLen c i) then
          let x : Shot := ⟨trk, i, decide (b.shots % 2 = 0), 0, 16, 0, s.frame, limit, none, none⟩
          (s.modTrk c (fun t => { t with shots := [x] })).askQuantum c x .clean
        else (s.modTrk c (fun t => { t with from_ := s.frame + 3, asked := some s.frame })).countAbort c)

/-- TRACKER_QUANTUM: the arbiter grants or refuses the next quantum of an item's shot, or the first one of a new shot;
`ecc` is what its reads of directory entries meet. -/
def execTrackerQuantum (cl : Fin 16) (trk : Fin 4) (item : Fin 64) (ecc : Ecc) (s : State) :
    Host.Outcome State Fault Refusal :=
  .next (
    let c := cl.val
    if trk.val % 2 = 1 ∨ s.mode ≠ .run then s
    else
      let mine := firstSome (s.trk c).shots (fun x => if x.trk = trk.val ∧ x.item = item.val then some x else none)
      match mine with
      | some x =>
        if s.frame < x.at_ then s
        else if x.stretch = 5 then s.endShot c x
        else s.askQuantum c x ecc
      | none => s.startShot c trk.val item.val ecc)

/-- At the end of a frame a tracker routine yields to a host call accepted in it, or to a foreground request of
an earlier frame: its shot is abandoned, but quanta already granted play to their ends (R413, R418, R435, R436). -/
def State.yieldShots (s : State) (c : Nat) : State :=
  let m := s.me c
  let wanted := m.run.isSome || m.reqs.any (fun r => decide (r.issue < s.frame))
    || m.hostReq.any (fun h => decide (h.issue ≤ s.frame))
  if wanted then
    forEach ((s.trk c).shots) (fun x s =>
      let s1 := s.modTrk c (fun t => { t with yielded := true })
      if x.stretch = 5 then s1 else s1.dropShot c x) s
  else s

/-! ## Updates (R438 to R441) -/

/-- The rational a / b, b positive, rounded to nearest with halves to even (R438, R439). -/
def rneDiv (a : Int) (b : Nat) : Int :=
  let q := a / (b : Int)
  let r := 2 * (a % (b : Int))
  if r < b then q else if (b : Int) < r then q + 1 else if q % 2 = 0 then q else q + 1

/-- π in units of 10^−60 (R438). -/
def pi60 : Nat := 3141592653589793238462643383279502884197169399375105820974944

/-- The frequency step of a batch in word LSBs: GAIN / 256 × δ / (16 GHz / 2^48), with δ = e / (2π × TAU ns)
(R438). -/
def freqStep (gain m tau : Nat) (n : Int) : Int :=
  rneDiv (n * gain * 2 ^ 35 * 10 ^ 60) (pi60 * m * tau)

/-- A proposal outside its field is not one value that the spec states: it is free (log entry 20). -/
def State.inField (s : State) (w : Nat) (v : Int) : Int × State :=
  if satInt w v = v then (v, s)
  else
    let (k, s1) := s.fresh
    (sbitsOf (Config.freeWord k).toNat (w - 1) 0, s1)

/-- The DISC update of a batch: the three C_k, moved by (dI, dQ) (R439). -/
def State.discValues (s : State) (c i : Nat) (b : Batch) : List (Nat × Int) × State :=
  let w0 := s.itemWord c i 0
  let sl := bitsOf w0 25 16
  let ref (j : Nat) : Int := sbitsOf (s.itemWord c i j) 31 0
  let gain := bitsOf (s.itemWord c i 5) 23 16
  let x := b.i0 * b.n1 + b.i1 * b.n0 - (ref 1 + ref 3) * (b.n0 * b.n1)
  let y := b.q0 * b.n1 + b.q1 * b.n0 - (ref 2 + ref 4) * (b.n0 * b.n1)
  (List.range 3).foldl (fun (acc : List (Nat × Int) × State) k =>
    let l := s.regN (aSlot sl (0x20 + 8 * k))
    let a := aSlot sl (0x24 + 8 * k)
    let v := sbitsOf (s.regN a) 31 0
      + rneDiv (gain * (sbitsOf l 15 0 * x + sbitsOf l 31 16 * y)) (131072 * (b.n0 * b.n1))
    let r := acc.2.inField 32 v
    (acc.1 ++ [(a, r.1)], r.2)) ([], s)

/-- The values that a complete batch proposes, if it proposes any (R438 to R440). -/
def State.proposal (s : State) (c trk i : Nat) (b : Batch) : List (Nat × Int) × State :=
  let w0 := s.itemWord c i 0
  let w2 := s.itemWord c i 2
  let w3 := s.itemWord c i 3
  let m := s.itemM c trk i
  let dF := freqStep (bitsOf w3 23 16) m (bitsOf w2 15 0) ((b.minus : Int) - b.plus)
  match trk with
  | 0 =>
    let q := bitsOf w0 9 0
    let a := aDrv (q / 4) (0x1000 + 0x20 * (32 * (q % 4) + bitsOf w0 14 10))
    ([(a, (s.reg64 (a + 0x10) : Int) + dF)], s)
  | 1 => if b.n0 = 0 ∨ b.n1 = 0 then ([], s) else s.discValues c i b
  | 2 =>
    let a := aFlx (bitsOf (s.itemWord c i 4) 8 0) 8
    let sens := sbitsOf (s.itemWord c i 5) 31 0
    if sens = 0 then ([], s)
    else
      let d := rneDiv (if 0 < sens then -dF else dF) (256 * sens.natAbs)
      let r := s.inField 16 (sbitsOf (s.regN a) 15 0 + d)
      ([(a, r.1)], r.2)
  | _ =>
    let target := s.itemWord c i 1
    let band := bitsOf w2 15 0
    let step := bitsOf w2 31 16
    let a := aPump c 4
    let level := s.fld (aPump c 0x18) 15 0
    if b.sum * 65536 < m * target * (65536 - band) then ([(a, (min 65535 (level + step) : Nat))], s)
    else if m * target * (65536 + band) < b.sum * 65536 then ([(a, (level - step : Nat))], s)
    else ([], s)

/-- Whether an item's batch is complete (R438 to R440). -/
def State.batchDone (s : State) (c trk i : Nat) : Bool :=
  let b := s.batch c trk i
  let m := s.itemM c trk i
  let n := if trk = 1 then b.n0 + b.n1 else if trk = 3 then b.blocks else b.counted
  decide (0 < m) && decide ((if trk % 2 = 0 then 2 * m else m) ≤ n)

/-- TRACKER_UPDATE: a complete batch forms its update, ready in this frame; it replaces one of the same item that still
waits (R438 to R441, R506). -/
def execTrackerUpdate (cl : Fin 16) (trk : Fin 4) (item : Fin 64) (s : State) :
    Host.Outcome State Fault Refusal :=
  .next (
    let c := cl.val
    let k := trk.val
    let i := item.val
    if !s.itemRuns c k i || !s.batchDone c k i || decide (2 ≤ s.thermLevel) then s
    else
      let r := s.proposal c k i (s.batch c k i)
      let s1 := r.2.modBatch c k i (fun _ => .init)
      if r.1.isEmpty then s1
      else s1.modTrk c (fun t => { t with
        ready := t.ready.filter (fun u => !(u.trk == k && u.item == i)) ++ [⟨k, i, s.frame, r.1⟩] }))

end Sys2Proof.Machine
end

