-- ==== Sys2Proof/Machine/RegCheck.lean ====
section
/-!
DEFINITION. Which words of the control space a write reaches, and what refuses it (R13, R96, R126, R260, R265,
R267, R534 to R537), over both access paths.
-/
namespace Sys2Proof.Machine

/-- The place an address names on an access path; a sized ring, and over Abral the recorder window, are
mapped to nothing (R260, R521, R535). -/
def State.place (s : State) (spi : Bool) (a : Nat) : Option Loc :=
  match locate a with
  | none => none
  | some l => match l.row.kind with
    | .waveMem => if 4 * l.j < 16777216 - s.ringSize l.i then some l else none
    | .recSlots => if spi then some l else none
    | _ => some l

/-- Whether a field is plainly written by the host. -/
def Field.isRw (f : Field) : Bool :=
  match f.acc with
  | .rw => true
  | _ => false

/-- Whether a word has fields of a coherence group. -/
def RegRow.hasShadow (r : RegRow) : Bool := r.fields.any Field.isShadow

/-- The RW bits of a word taken from `v`, the rest from `old` (R11, R12). -/
def RegRow.rwMerge (r : RegRow) (old v : Nat) : Nat := mergeFields (r.fields.filter Field.isRw) old v

/-- A word of a command as later words of the same command are judged: shadows and RW fields hold it. -/
def State.trialWrite (s : State) (l : Loc) (a : Nat) (v : Word) : State :=
  if l.row.kind.inMem then s
  else
    let s1 := if l.row.hasShadow then s.shadowWrite l a v else s
    s1.setRegN a (l.row.rwMerge (s1.regN a) v.toNat)

/-- The refusal of a directory entry as installed (R267). -/
def entryRefusal (e : Entry) : Option Status :=
  if !e.valid then none
  else if e.len = 0 then some .zeroRefused
  else if e.len < 4 ∨ 131072 < e.len ∨ e.cls = 3 ∨ (e.cls = 2 ∧ e.stream)
      ∨ (e.cls = 0 ∧ !e.stream ∧ e.base % 2 = 1)
      ∨ (e.cls ≤ 1 ∧ !e.stream ∧ 16777216 < 16 * e.base + e.len * granBytes e.cls) then some .dirInvalid
  else none

/-- The address set that an address of the host-port block lies in (R106). -/
def addrSet (a : Nat) : Nat := (a - 0x01000100) / 0x40

/-- Whether address set `k` is in use (R80). -/
def State.setInUse (s : State) (k : Nat) : Bool := bitOf (s.regN (aHostSet k 0x3C)) 0

/-- A committed word as it is in force in this frame: host accesses are judged before the commits of the frame are
worked, which are effective in it already (R121, R246). -/
def State.wordNow (s : State) (a : Nat) : Word :=
  match (locate a).bind Loc.group with
  | some g =>
    let now := s.commits.any (fun p => decide (p.frame ≤ s.frame) && p.groups.any (fun x => decide (x.toNat = g)))
    if now && s.written a then s.shadowWord a else s.reg a
  | none => s.reg a

/-- Whether a weight bank of slot `i` is in use (R301). -/
def State.bankInUse (s : State) (i b : Nat) : Bool :=
  decide (bitsOf (s.wordNow (aSlot i 0x14)).toNat 25 25 = b)
    || (s.slot i).wins.any (fun w => w.openAt s.ticks && decide (w.wbank = b))

/-- A live field that a write would change: refused with `LIVE_WRITE_REFUSED` (R80, R126, R130, R229, R246,
R294, R301, R319, R362, R387). -/
def State.liveRefused (s : State) (l : Loc) (a : Nat) (v : Word) : Bool :=
  let run := decide (s.mode = .run)
  let n := v.toNat
  let old := s.regN a
  match l.row.kind with
  | .gClusterFault => run && decide (Nat.land (Nat.land n old) 0xFFFF ≠ 0)
  | .hMacHi | .hMacLo | .hAddr | .hUdpPorts => s.setInUse (addrSet a)
  | .hIpCfg => bitOf old 0 && (bitsOf old 23 10 != bitsOf n 23 10 || bitOf old 1 != bitOf n 1)
  | .drvCtrl | .prbCtrl | .pmCtrl => run && bitOf old 8 != bitOf n 8
  | .flxCoef | .flxTap => run && l.j == bitsOf (s.wordNow (aFlx l.i 0x14)).toNat 0 0
  | .acqTap => run && l.j % 2 == bitsOf (s.wordNow (aSlot (32 * l.i + l.j / 2) 0xC)).toNat 5 5
  | .acqWeight => run && s.bankInUse l.i (l.j / 4096)
  | .rdProg => run && bitOf (s.regN (aRd l.i 0)) 0
  | .pcGraph => run && l.i == s.liveBank
  | .glCtrl => run && (bitOf old 0 != bitOf n 0 || bitOf n 1)
  | .capTraceCfg => bitOf old 31 && decide (bitsOf old 25 22 ≠ bitsOf n 25 22 ∨ bitsOf old 9 0 ≠ bitsOf n 9 0)
  | _ => run && !l.row.run

/-- An action the mode in force does not allow, or one refused by its own unit (R66, R419, R462, R463, R478,
R518). -/
def State.actionRefused (s : State) (spi : Bool) (l : Loc) (v : Word) : Option Status :=
  let n := v.toNat
  match l.row.kind with
  | .gModeReq => s.modeReqBad (bitsOf n 3 0) spi
  | .syncCtrl =>
    let src := bitsOf n 7 4
    if 8 < src then some .rangeRefused
    else if !bitOf n 0 then none
    else if s.mode = .run ∨ !s.modes.starts.isEmpty then some .modeRefused
    else if src ≠ 0 ∧ (s.golState (src - 1) ≠ 2 ∨ s.fld (aGl (src - 1) 0xC) 3 3 = 0) then some .modeRefused
    else none
  | .meHostCall => if bitOf n 31 && decide (s.mode ≠ .run) then some .modeRefused else none
  | .nvCmd => s.nvCmdBad v
  | .ntLCtrl => s.launchBad l.i v
  | _ => none

/-- A tracker item that runs with a zero its tracker has no meaning for (R446). -/
def itemZero (w : Nat → Nat) : Bool :=
  let trk := bitsOf (w 0) 30 28
  bitOf (w 0) 31 && (match trk with
    | 0 => bitsOf (w 2) 15 0 = 0 || bitsOf (w 2) 29 16 = 0 || bitsOf (w 3) 15 0 = 0
    | 1 => bitsOf (w 5) 15 0 = 0
    | 2 => bitsOf (w 2) 15 0 = 0 || bitsOf (w 2) 29 16 = 0 || bitsOf (w 3) 15 0 = 0 || w 5 = 0
    | 3 => bitsOf (w 2) 31 16 = 0 || bitsOf (w 3) 15 0 = 0
    | _ => false)

/-- Values that a field has no meaning for, or that lie outside its range (R25, R106, R275, R285, R342, R372,
R388, R395, R396, R446, R462, R482, R501, R511, R533); `fin` gives the words as the command leaves them. -/
def State.valueRefused (s : State) (fin : Nat → Nat) (l : Loc) (a : Nat) (v : Word) : Option Status :=
  let n := v.toNat
  match l.row.kind with
  | .gRoundLen =>
    let x := bitsOf n 24 0
    refuseIf false (decide (0 < x ∧ x < 100) || decide (2 ^ 24 < x))
  | .hMtu =>
    let x := bitsOf n 13 0
    refuseIf (x = 0) (decide (x < 1518) || decide (9216 < x))
  | .hVlan => refuseIf false (bitsOf n 11 0 = 0xFFF)
  | .hCplRto => refuseIf (bitsOf n 15 0 = 0) false
  | .hStreamFlush => refuseIf (bitsOf n 15 0 = 0) false
  | .hUdpPorts => refuseIf (bitsOf n 15 0 = 0 || bitsOf n 31 16 = 0) false
  | .hIpCfg => refuseIf (bitsOf n 23 16 = 0) false
  | .ntIncFrac | .ntIncNs =>
    let x := bitsOf (fin 0x02000014) 7 0 * 2 ^ 32 + fin 0x02000010
    refuseIf (x = 0) (decide (100 * x < 99 * 2 ^ 32) || decide (101 * 2 ^ 32 < 100 * x))
  | .thThrottle =>
    let m := bitsOf n 7 0
    refuseIf (m = 0) (m = 1)
  | .recRate => refuseIf (bitsOf n 15 8 = 0) (!rateCodes.contains l.i)
  | .syncDelay =>
    let x := bitsOf n 15 0
    refuseIf (x = 0) (decide (x < 64))
  | .carCfg => refuseIf false (decide (8 < bitsOf n 3 0))
  | .trkItem =>
    let b := a - a % 32
    refuseIf (itemZero (fun j => fin (b + 4 * j))) false
  | .acqCtrl => refuseIf (bitsOf n 1 0 = 0) false
  | .rdProg | .rdX | .rdY => refuseIf false (decide (15360 ≤ l.j) && bitOf (s.regN (aRd l.i 0)) 1)
  | .pcPauliCfg => refuseIf false (decide (bitsOf n 7 0 < 8))
  | .capTraceCfg => refuseIf false (bitsOf n 23 22 = 3 || bitsOf n 25 24 = 3)
  | .snapPre => refuseIf false (decide (65536 < bitsOf n 16 0))
  | .snapCtrl =>
    refuseIf (bitOf n 31 && s.fld (aSnap l.i 4) 16 0 = 0 && s.fld (aSnap l.i 8) 16 0 = 0) false
  | .bsNvPwrup | .bsNvFault => refuseIf false (bitsOf n 21 20 = 3)
  | .entryTable => refuseIf false (bitOf n 31 && decide (bitsOf n 13 0 < 12288))
  | _ => none

/-- Words that no host write reaches, whatever the mode (R412, R420, R421). -/
def Loc.vendorOnly (l : Loc) : Bool :=
  match l.row.kind with
  | .ctlStore => decide (l.i < 12288)
  | .entryTable => decide (l.i < 128)
  | .scratchMem => decide (15360 ≤ l.j)
  | _ => false

/-- The refusal of one word: live fields and modes first, then zeros, then ranges. `s` is the state the
command found, `t` what its earlier words leave. -/
def State.wordRefused (s t : State) (spi : Bool) (fin : Nat → Nat) (l : Loc) (a : Nat) (v : Word) :
    Option Status :=
  if l.vendorOnly then some .rangeRefused
  else if s.liveRefused l a v then some .liveWriteRefused
  else match t.actionRefused spi l v with
    | some st => some st
    | none => match t.valueRefused fin l a v with
      | some st => some st
      | none => l.group.bind (fun g => (t.trialWrite l a v).shadowBad g)

/-- The refusal of a word of the directory: `whole` says that the command installs whole entries, and `next`
are the words after it (R265, R267). -/
def dirRefused (whole : Bool) (a : Nat) (v : Word) (next : List Word) : Option Status :=
  if !whole then some .addrRefused
  else if a % 16 ≠ 0 then none
  else
    let w (i : Nat) : Nat := (next.getD i 0).toNat
    entryRefusal (.ofWords v.toNat (w 0) (w 1) (w 2))

/-- The first word that refuses a write of `ws` from address `a`, with its address (R96). -/
def State.scanWords (s : State) (spi whole : Bool) (blk : Nat) (fin : Nat → Nat) (t : State) (a : Nat)
    (ws : List Word) : Option (Status × Nat) :=
  match ws with
  | [] => none
  | v :: rest =>
    if blockOf a ≠ blk then some (.addrRefused, a)
    else match s.place spi a with
      | none => some (.addrRefused, a)
      | some l =>
        let bad := match l.row.kind with
          | .dirMem => dirRefused whole a v rest
          | _ => s.wordRefused t spi fin l a v
        match bad with
        | some st => some (st, a)
        | none => s.scanWords spi whole blk fin (t.trialWrite l a v) (a + 4) rest

/-- A word as a write of `ws` from address `a` leaves it. -/
def State.finalWord (s : State) (a : Nat) (ws : List Word) (b : Nat) : Nat :=
  if a ≤ b ∧ b < a + 4 * ws.length then (ws.getD ((b - a) / 4) 0).toNat else s.regN b

/-- Whether an address lies in a directory window (R265). -/
def inDirectory (a : Nat) : Bool :=
  match locate a with
  | some l => decide (l.row.kind = .dirMem)
  | none => false

/-- What refuses a write of `ws` from address `a`, and the address reported (R96); `fill` for FILL. -/
def State.writeRefused (s : State) (spi fill : Bool) (a : Nat) (ws : List Word) : Option (Status × Nat) :=
  if a % 4 ≠ 0 then some (.addrRefused, a)
  else
    let whole := !fill && inDirectory a && decide (a % 16 = 0) && decide (ws.length % 4 = 0)
    s.scanWords spi whole (blockOf a) (s.finalWord a ws) s a ws

/-- The first word that refuses a READ of `n` words from address `a` (R96). -/
def State.scanRead (s : State) (spi : Bool) (blk a n : Nat) : Option Nat :=
  match n with
  | 0 => none
  | n + 1 =>
    if blockOf a ≠ blk then some a
    else match s.place spi a with
      | none => some a
      | some _ => s.scanRead spi blk (a + 4) n

/-- The address that refuses a READ of `n` words from address `a` with `ADDR_REFUSED` (R96). -/
def State.readRefused (s : State) (spi : Bool) (a n : Nat) : Option Nat :=
  if a % 4 ≠ 0 then some a else s.scanRead spi (blockOf a) a n

/-- Whether the mode in force lets a word be written on a path (R59, R516, R541). -/
def State.writeMode (s : State) (spi : Bool) (a : Nat) : Bool :=
  s.cfgMode || (spi && decide (a = 8) && decide (s.mode = .boot))

end Sys2Proof.Machine
end

