-- ==== Sys2Proof/Machine/RegApply.lean ====
section
/-!
DEFINITION. What an accepted word does when it is written (R11, R537): the plain fields, and the effect of
every register that has one of its own.
-/
namespace Sys2Proof.Machine

/-! ## Plain fields -/

/-- Whether a field is cleared by writing ones. -/
def Field.isW1c (f : Field) : Bool :=
  match f.acc with
  | .w1c => true
  | _ => false

/-- The mask of the W1C bits of a word. -/
def RegRow.w1cMask (r : RegRow) : Nat := mergeFields (r.fields.filter Field.isW1c) 0 (2 ^ 32 - 1)

/-- A word as its fields take it: shadows and RW fields hold it, ones clear W1C bits, and RO, RC, WO and
reserved bits keep what they hold (R11, R12, R537). A bit that the device has set in this frame stays set (R539). -/
def State.storeWord (s : State) (l : Loc) (a : Nat) (v : Word) : State :=
  let s1 := if l.row.hasShadow then s.shadowWrite l a v else s
  let w := l.row.rwMerge (s1.regN a) v.toNat
  s1.setRegN a (w - Nat.land (Nat.land w l.row.w1cMask) (v &&& s.before a).toNat)

/-- A word held on one access path (R171, R538). -/
def pathKey (spi : Bool) (a : Nat) : Nat := if spi then 2 ^ 32 + a else a

/-- The word staged at a place (R23, R66, R171, R420). -/
def State.staged (s : State) (k : Nat) : Word := sget 0 s.staging k

/-- A word is staged at a place. -/
def State.stageWord (s : State) (k : Nat) (v : Word) : State := { s with staging := sset 0 s.staging k v }

/-! ## Outputs (R229, R230, R234, R246, R499) -/

/-- The address of a channel's CTRL register. -/
def aOut (cls : OutClass) (n : Nat) : Nat :=
  match cls with
  | .drv => aDrv n 0
  | .prb => aPrb n 0
  | .flx => aFlx n 0
  | .pump => aPump n 0

/-- The enable of a channel in force at the ball: what the register held 2 frames ago (R230). -/
def State.enabled (s : State) (cls : OutClass) (n : Nat) : Bool := bitOf (s.wordAgo (aOut cls n) 2).toNat 0

/-- A write of a channel's CTRL register: a new MODE mutes it from 2 frames later for 1,000 frames (R229, R499). -/
def State.writeOut (s : State) (cls : OutClass) (n : Nat) (l : Loc) (a : Nat) (v : Word) : State :=
  let f := s.ticks
  let s1 := s.storeWord l a v
  if bitOf (s.regN a) 8 == bitOf (s1.regN a) 8 then s1
  else s1.modStage cls n (fun x => { x with
    settleFrom := if f < x.settleUntil then x.settleFrom else f + 2, settleUntil := f + 1002 })

/-- The enable of a marker in force at the ball: what the register held 2 frames ago (R234). -/
def State.markerOn (s : State) (m : Nat) : Bool := bitOf (s.wordAgo (aMrk m 0) 2).toNat 0

/-! ## Clusters (R130, R136) -/

/-- What RECOVER leaves of a cluster (R130, R136); the time of the last NOTIFY goes on (R200). -/
def State.resetCluster (s : State) (c : Nat) : State :=
  let s1 := forEach (List.range 8) (fun i s => s.modSeq (8 * c + i) (fun x => { Seq.init with lastNotify := x.lastNotify })) s
  let s2 := (s1.modMe c (fun _ => .init)).modRd c (fun r =>
    { Rdsp.init with frameHi := r.frameHi, roundHi := r.roundHi })
  let s3 := (s2.modTrk c (fun _ => .init)).emptyRing c
  { s3 with tqueues := s3.tqueues.filter (fun p => p.1 / 256 ≠ c) }

/-- A write of `GLOBAL.CLUSTER_FAULT` releases the clusters whose bits it clears (R130). -/
def State.releaseClusters (s : State) (v : Word) : State :=
  forEach (List.range 16) (fun c s =>
    if s.contained c && bitOf (v &&& s.before 0x64).toNat c then (s.setFld 0x64 c c 0).resetCluster c else s) s

/-! ## Rounds (R23, R371) -/

/-- A write accepted to `GLOBAL.ROUND_LEN` or `GLOBAL.ROUND_ORIGIN` discards the held Pauli entries, which
makes room for a waiting PAULI_UPDATE (R369, R371). -/
def State.writeRounds (s : State) (f : State → State) : State := (f s.dropPauli).retryPauli

/-! ## Capture (R381, R387, R392) -/

/-- The state of the watched D-bits of group `g` from now on (R381). -/
def State.rebaseWatch (s : State) (g : Nat) : State :=
  let k := s.fld (0x70000200 + 4 * g) 7 0
  { s with cap := { s.cap with watch := supd .init s.cap.watch g (fun w => { w with
    value := s.dbitWord k (fun d => d.value), valid := s.dbitWord k (fun d => d.valid),
    stale := s.dbitWord k (fun d => d.stale), changed := 0 }) } }

/-- A write of `CAP.TRACE_CFG`: the stream opens or closes (R102, R387); at a close its staged records go out. -/
def State.writeTrace (s : State) (t : Nat) (l : Loc) (a : Nat) (v : Word) : State :=
  if s.traceOpen t then
    if bitOf v.toNat 31 then s.storeWord l a v
    else ((s.flushTrace t).storeWord l a v).modTrace t (fun _ => .init)
  else
    let s1 := s.storeWord l a v
    if bitOf v.toNat 31 then s1.modTrace t (fun _ => { Trace.init with at_ := s.ticks }) else s1

/-- A write of `CAP.SNAP_CTRL`: ARM, then FORCE with the frame of the write as its trigger frame (R392). -/
def State.writeSnap (s : State) (n : Nat) (l : Loc) (a : Nat) (v : Word) : State :=
  let s1 := s.storeWord l a v
  let s2 := if bitOf v.toNat 31 then s1.snapArm n else s1
  if bitOf v.toNat 29 then s2.snapTrigger n s.frame s.ticks else s2

/-! ## Microengines (R419, R420) -/

/-- Whether a routine is the host's. -/
def Routine.isHost (r : Routine) : Bool := r.req.host

/-- `ME.STATUS.HOST_BUSY` (R419). -/
def State.hostBusy (s : State) (c : Nat) : Bool :=
  let m := s.me c
  m.hostReq.isSome || m.run.any Routine.isHost || m.again.any (fun p => p.1.isHost)

/-- A write of `ME.HOST_CALL`; `ME.HOST_ARG0` to `ME.HOST_ARG3` are read as the routine starts (R419, R428). -/
def State.writeHostCall (s : State) (c : Nat) (v : Word) : State :=
  let n := v.toNat
  if !bitOf n 31 then s
  else if s.hostBusy c then s.raise (aCl c 0x1000) 9
  else
    let q := bitsOf n 26 24
    let idx := bitsOf n 7 0
    let r : MeReq :=
      { host := true, seq := q, index := idx,
        w := [0, 0, 0, 0, 0, BitVec.ofNat 32 idx, BitVec.ofNat 32 q],
        tl := BitVec.ofNat 64 (bitsOf n 23 12), t := [], issue := s.frame,
        targets := (List.range 228).filter (fun t => s.owns (8 * c + q) t) }
    s.modMe c (fun m => { m with hostReq := some r })

/-- A word of the customer control store: words 0 to 4 are staged, and word 5 installs all six (R420). -/
def State.writeControl (s : State) (w j : Nat) (v : Word) : State :=
  if j < 5 then s.stageWord (0x90000000 + 4 * j) v
  else
    let old := (List.range 5).flatMap (fun i => leBytes 4 (s.staged (0x90000000 + 4 * i)).toNat)
    s.setBytes (0x90000000 + 32 * w) (old ++ leBytes 4 v.toNat)

/-- A half of program word `w` of cluster `c`: the low half is staged on its path, and the high half
installs both (R171). -/
def State.writeProgram (s : State) (spi : Bool) (c j : Nat) (v : Word) : State :=
  let k := pathKey spi (aCl c 0x80000)
  if j % 2 = 0 then s.stageWord k v
  else s.setBytes (aCl c (0x80000 + 8 * (j / 2))) (leBytes 4 (s.staged k).toNat ++ leBytes 4 v.toNat)

/-! ## Trackers (R447) -/

/-- A write of word `j` of a tracker item at address `a`: only the fields that the item's TRACKER gives the word take it;
TRACKER is that of word 0 as this write leaves it (DEDUCED, log entry 67). -/
def State.writeItem (s : State) (j a : Nat) (v : Word) : State :=
  let w0 := if j = 0 then v.toNat else s.regN (a - 4 * j)
  s.setRegN a (itemMerge (bitsOf w0 30 28) j (s.regN a) v.toNat)

/-! ## Links, time and platform -/

/-- A write of a Gollet port's CTRL: EN, then CAL (R452, R453). -/
def State.writeGolCtrl (s : State) (p : Nat) (l : Loc) (a : Nat) (v : Word) : State :=
  let s1 := (s.storeWord l a v).golEnable p
  if bitOf v.toNat 1 then s1.golCal p else s1

/-- A write of `NTU.SERVO_CTRL`: the servo's enable, CLEAR and RESUME (R473, R475). -/
def State.writeServo (s : State) (l : Loc) (a : Nat) (v : Word) : State :=
  let s1 := s.storeWord l a v
  let s2 := if bitOf v.toNat 1 then s1.servoClear else s1
  if bitOf v.toNat 2 then s2.ntuResume else s2

/-- A write of an address set's IP_CFG: a VALID that becomes 1 ends bootstrap with the next frame (R78). -/
def State.writeIpCfg (s : State) (k : Nat) (l : Loc) (a : Nat) (v : Word) : State :=
  let s1 := s.storeWord l a v
  if !bitOf (s.regN a) 0 && bitOf v.toNat 0 then
    s1.modPort k (fun p => { p with filterFrom := s.frame + 1 })
  else if bitOf (s.regN a) 0 && !bitOf v.toNat 0 then
    s1.modPort k (fun p => { p with waiting := p.waiting.filter (fun t => t.kind != .stream && !t.isReplay) })
  else s1

/-- A write that changes RATE of a recorder code: its period counts from this frame (R528). -/
def State.writeRate (s : State) (code : Nat) (l : Loc) (a : Nat) (v : Word) : State :=
  let s1 := s.storeWord l a v
  if s.fld a 7 0 = s1.fld a 7 0 then s1
  else { s1 with bar := { s1.bar with tokenAt := sset 0 s1.bar.tokenAt code s.ticks } }

/-! ## One word -/

/-- An accepted word takes effect on access path `spi`. The snapshot memories, which no rule gives an access code, ignore
writes as the RO memories do (DESIGN CHOICE, log entry 60). The words of a waveform slice go through its write
port instead, and requests of `GLOBAL.MODE_REQ` follow the write. -/
def State.applyWord (s : State) (spi : Bool) (l : Loc) (a : Nat) (v : Word) : State :=
  let n := v.toNat
  match l.row.kind with
  | .gWakeLo | .gOriginLo => s.stageWord a v
  | .gWakeHi => (s.setReg 0x50 (s.staged 0x50)).setReg 0x54 v
  | .gOriginHi => s.writeRounds (fun s => (s.setReg 0x10C (s.staged 0x10C)).setReg 0x110 v)
  | .gRoundLen => s.writeRounds (fun s => s.storeWord l a v)
  | .gClusterFault => s.releaseClusters v
  | .hIpCfg => s.writeIpCfg l.i l a v
  | .ntRxTail => (s.rxTail (s.fld a 5 0) (bitsOf n 5 0)).storeWord l a v
  | .ntOffset => s.servoOffset (wordInt v)
  | .ntStep => s.ntuStep (wordInt v)
  | .ntServoCtrl => s.writeServo l a v
  | .ntLCtrl => s.launchCtrl l.i v
  | .glCtrl => s.writeGolCtrl l.i l a v
  | .glLat => (s.storeWord l a v).setFld (aGl l.i 0xC) 3 3 0
  | .glTx => s.golMsgTx l.i (bitsOf n 7 0)
  | .syncCtrl => if bitOf n 1 then (s.storeWord l a v).syncGenerate else s.storeWord l a v
  | .carCfg =>
    let s1 := s.storeWord l a v
    if s.ringSize l.i = s1.ringSize l.i then s1 else s1.emptyRing l.i
  | .carCtrl => if bitOf n 0 then s.emptyRing l.i else s
  | .drvCtrl => s.writeOut .drv l.i l a v
  | .prbCtrl => s.writeOut .prb l.i l a v
  | .flxCtrl => s.writeOut .flx l.i l a v
  | .pmCtrl => s.writeOut .pump l.i l a v
  | .acqDetCfg => (s.catchUp l.i).storeWord l a v
  | .acqCtrl =>
    let s1 := s.storeWord l a v
    if s.fld a 1 0 = s1.fld a 1 0 then s1 else s1.settleZone l.i
  | .rdMboxIn =>
    let s1 := if (s.rd l.i).mboxReq then s.raise (aRd l.i 4) 11 else s
    (s1.storeWord l a v).modRd l.i (fun r => { r with mboxReq := true })
  | .pcPauliCtrl => if bitOf n 0 then forEach (List.range 64) (fun i s => s.setReg (0x60000100 + 4 * i) 0) s else s
  | .capWatch =>
    let s1 := s.storeWord l a v
    if s1.reg a = s.reg a then s1 else s1.rebaseWatch l.i
  | .capTraceCfg => s.writeTrace l.i l a v
  | .snapCtrl => s.writeSnap l.i l a v
  | .barTaiRef => s.taiApply v
  | .nvCmd => s.nvGo v
  | .recRate => s.writeRate l.i l a v
  | .bsNvCtrl => s.nvStore l.i v
  | .meHostCall => s.writeHostCall l.i v
  | .ctlStore => s.writeControl l.i l.j v
  | .trkItem => s.writeItem l.k a v
  | .progMem => s.writeProgram spi l.i l.j v
  | _ => if l.row.kind.inMem then s.setMemWord a (l.row.rwMerge (s.memWord a) n) else s.storeWord l a v

/-- The words of a command take effect in ascending address order (R96). -/
def State.applyWords (s : State) (spi : Bool) (a : Nat) (ws : List Word) : State :=
  match ws with
  | [] => s
  | v :: rest =>
    let s1 := match locate a with
      | some l => s.applyWord spi l a v
      | none => s
    s1.applyWords spi (a + 4) rest

/-! ## What follows the write (R43, R61, R65, R74) -/

/-- A port loses its link: what waits for it is held by its sender, and a frame on the wire is lost (R75). -/
def State.portDown (s : State) (k : Nat) : State :=
  s.modPort k (fun p => { p with
    up := false, downAt := s.ticks, wire := none,
    waiting := p.waiting.filter (fun t => t.kind == .trace) })

/-- A write of `HOST.PORT_CFG` retrains every port; the ports in use before it lose their links (R74). -/
def State.retrain (s : State) (wasSplit : Bool) : State :=
  forEach (List.range 4) (fun k s =>
    let s1 := if (wasSplit || k == 0) && (s.hport k).up then s.raise 0x01000004 (8 + k) else s
    s1.portDown k) s

/-- The word that a write of `ws` from address `a` gives address `b`. -/
def writtenAt (a : Nat) (ws : List Word) (b : Nat) : Option Word :=
  if a ≤ b ∧ (b - a) % 4 = 0 then ws[(b - a) / 4]? else none

/-- What a completed write sets in motion: a mode request, or the retraining of the host port (R43, R74). `redo` is the
write. -/
def State.afterWrite (s : State) (redo : State → State) (wasSplit : Bool) (a : Nat) (ws : List Word) : State :=
  let s1 := match writtenAt a ws 0x44 with
    | some v => s.modeReqWritten redo (bitsOf v.toNat 3 0)
    | none => s
  match writtenAt a ws 0x01000000 with
  | some _ => s1.retrain wasSplit
  | none => s1

end Sys2Proof.Machine
end

