-- ==== Sys2Proof/Machine/RegRead.lean ====
section
/-!
DEFINITION. What a read of the control space returns, and what it changes (R11, R29, R264, R420, R460, R538).
-/
namespace Sys2Proof.Machine

/-! ## What an access reads of a word (R539) -/

/-- A field of a word as an access reads it: a change that the device makes in this frame is not read yet (R539). -/
def Field.seen (old w : Nat) (f : Field) : Nat :=
  match f.acc with
  | .ro => withBits w f.hi f.lo (bitsOf old f.hi f.lo)
  | .w1c => withBits w f.hi f.lo (bitsOf old f.hi f.lo &&& bitsOf w f.hi f.lo)
  | _ => w

/-- A stored register word as an access of this frame reads it (R539). -/
def State.seen (s : State) (a : Nat) : Nat :=
  match locate a with
  | some l => l.row.fields.foldl (Field.seen (s.before a).toNat) (s.regN a)
  | none => s.regN a

/-! ## Output status -/

/-- The cluster of a channel. -/
def outCluster (cls : OutClass) (n : Nat) : Nat :=
  match cls with
  | .drv => n / 16
  | .prb => n / 2
  | .flx => n / 32
  | .pump => n

/-- Whether a stage settles, seen `d` frames down the path (R229, R248). -/
def State.settles (s : State) (cls : OutClass) (n d : Nat) : Bool :=
  let x := s.stage cls n
  decide (x.settleFrom + d ≤ s.ticks ∧ s.ticks < x.settleUntil)

/-- Whether an output is muted at the ball in this frame (R41, R54, R55, R57, R129, R229, R230, R248). -/
def State.muted (s : State) (cls : OutClass) (n : Nat) : Bool :=
  let c := outCluster cls n
  let gone := match s.mode with
    | .reset | .boot => true
    | .sleep | .safe => decide (s.modes.safeFrame + 2 ≤ s.ticks)
    | _ => false
  gone || (s.contained c && decide ((s.cl c).faultAt + 2 ≤ s.ticks)) || !s.enabled cls n
    || s.settles cls n (match cls with
      | .flx => 32
      | _ => 0)

/-- The status word of an output channel. -/
def State.outStatus (s : State) (cls : OutClass) (n a : Nat) : Nat :=
  withBits (withBits (s.seen a) 9 9 (b2n (s.muted cls n))) 8 8 (b2n (s.settles cls n 0))

/-- Frames from the play frame to the NCO stage (R212). -/
def ncoDepth : Nat := 12

/-- The slot of the segment at the NCO stage of voice `k` in this frame, if there is one (R57, R238): what the voice
took `ncoDepth` frames ago. -/
def State.atNco (s : State) (k : Nat) : Option Nat :=
  match (sget Voice.init s.voices k).line.drop (ncoDepth - 1) with
  | v :: _ => if v.active then some v.slot else none
  | [] => none

/-- `VOICE_STATE` of voice `k`. -/
def State.voiceState (s : State) (k : Nat) : Nat :=
  match s.atNco k with
  | some x => x * 2 ^ 16 + 1
  | none => if sget Voice.init s.voices k = .init then 0 else (Config.idleSlot k (s.moment s.ticks)).val * 2 ^ 16

/-- Whether marker `m` carries the level of its pulses at the ball in this frame (R54, R234). -/
def State.markerGate (s : State) (m : Nat) : Bool :=
  let active := match s.mode with
    | .ready | .run => true
    | .sleep | .safe => decide (s.ticks < s.modes.safeFrame + 2)
    | _ => false
  active && s.markerOn m

/-- The level driven at the ball by marker `m` in this frame (R54, R233, R234). In a frame with an edge inside it the
level is that of a marker without SKEW (DESIGN CHOICE, log entry 62). -/
def State.markerLevel (s : State) (m : Nat) : Bool := s.markerGate m && (s.marker m).pulse s.ticks

/-! ## Units -/

/-- `ME.STATUS.STATE` of engine `c` (R428). -/
def State.meState (s : State) (c : Nat) : Nat :=
  let m := s.me c
  match m.run with
  | some r => if r.stalled then 5 else if r.isHost then 3 else 1
  | none => match m.again with
    | some (_, f) => if f ≤ s.frame + 1 then 4 else 0
    | none =>
      let t := s.trk c
      if t.yielded && m.reqs.isEmpty && m.hostReq.isNone && decide (m.freeAt ≤ s.frame) then 4
      else if t.shots.isEmpty then 0 else 2

/-- `GLOBAL.MODE` (R66). -/
def State.modeWord (s : State) : Nat :=
  withBits (withBits (withBits (s.seen 0x40) 2 0 s.mode.code) 4 4 (b2n (s.modes.wakeAt.isSome || s.wakeDue))) 5 5
    (b2n (s.mode = .safe && s.fld 0x40 5 5 = 1))

/-- `HOST.LINK_STATUS` (R106): no port has a link before the host port trains (R53). -/
def State.linkWord (s : State) : Nat :=
  let ks := if !s.hostUp then [] else if s.split then [0, 1, 2, 3] else [0]
  let up := ks.foldl (fun n k => n + b2n (s.hport k).up * 2 ^ k) 0
  withBits (withBits (s.seen 0x01000004) 3 0 up) 7 4 up

/-- The status word of bias output `b`: `LIVE_RANGE` is the range in force at the ball (R488, R490, R495, R501). -/
def State.biasStatus (s : State) (b : Nat) : Nat :=
  let x := s.bias b
  withBits (withBits (withBits (s.seen (aBias b 0x20)) 9 8 (recRange (x.shown s.ticks)).toNat) 2 2 (b2n x.fault)) 1 1
    (b2n (s.rangeSeq b))

/-- The status word of acquisition slot `i` (R293, R297, R301). -/
def State.slotStatus (s : State) (i : Nat) : Nat :=
  let w := withBits (s.seen (aSlot i 0x40)) 9 9 (s.fld (aSlot i 0x14) 25 25)
  withBits (withBits w 8 8 (s.fld (aSlot i 0xC) 5 5)) 1 1
    (b2n (s.chainSettles i))

/-- What a register reads as in this frame, before any effect of the read. -/
def State.readValue (s : State) (l : Loc) (a : Nat) : Nat :=
  let q := 8 * l.i + l.j
  match l.row.kind with
  | .gMode => s.modeWord
  | .syncCtrl => withBits (s.seen a) 0 0 (if s.reloaded then 1 else s.fld a 0 0)
  | .gFrameLo => s.frame % 2 ^ 32
  | .gFrameHi => s.frame / 2 ^ 32
  | .gRoundNumLo => s.roundAt s.frame % 2 ^ 32
  | .gRoundNumHi => s.roundAt s.frame / 2 ^ 32
  | .gTiming => withBits (s.seen a) 2 2 (b2n (s.inRoundAt s.frame))
  | .hLinkStatus => s.linkWord
  | .seqStatus => withBits (s.seen a) 2 0 (s.seq q).state.toNat
  | .seqPc => (s.seq q).pc.toNat
  | .seqTlLo => (s.seq q).tl.toNat % 2 ^ 32
  | .seqTlHi => (s.seq q).tl.toNat / 2 ^ 32
  | .seqGreg => ((s.seq q).get l.k).toNat
  | .drvStatus => s.outStatus .drv l.i a
  | .prbStatus => s.outStatus .prb l.i a
  | .flxStatus => s.outStatus .flx l.i a
  | .pmStatus => s.outStatus .pump l.i a
  | .drvVoiceState => s.voiceState (tkey (l.i / 16) (4 * (l.i % 16) + l.j))
  | .prbVoiceState => s.voiceState (tkey (l.i / 2) (96 + 32 * (l.i % 2) + l.j))
  | .mrkStatus => b2n (s.markerLevel l.i)
  | .flxPredStatus => s.fld (aFlx l.i 0x14) 0 0
  | .carFill => (s.cl l.i).ring.length
  | .carWrLo => (s.cl l.i).wr % 2 ^ 32
  | .carWrHi => (s.cl l.i).wr / 2 ^ 32
  | .carRdLo => (s.cl l.i).rd % 2 ^ 32
  | .carRdHi => (s.cl l.i).rd / 2 ^ 32
  | .acqStatus => withBits (s.seen a) 8 8 (b2n (s.zoneSettles l.i))
  | .acqSlotStatus => s.slotStatus (32 * l.i + l.j)
  | .rdStatus =>
    let r := s.rd l.i
    withBits (withBits (s.seen a) 10 9 (bitsOf r.sr.toNat 4 3)) 2 0 r.state.toNat
  | .rdPc => (s.rd l.i).pc.toNat
  | .rdQueue => (s.rd l.i).queue.length
  | .pcStatus => withBits (s.seen a) 8 8 s.liveBank
  | .pcPauliPending => s.pauliHeld
  | .pcDbitValue => (s.dbitWord l.i (fun d => d.value)).toNat
  | .pcDbitValid => (s.dbitWord l.i (fun d => d.valid)).toNat
  | .pcDbitStale => (s.dbitWord l.i (fun d => d.stale)).toNat
  | .pcDbitInRound => (s.dbitWord l.i (fun d => d.inRound)).toNat
  | .pcDbitTag => (s.dbit l.i).tag.toNat
  | .bsStatus => s.biasStatus l.i
  | .bsLive => (s.bias l.i).live.toNat
  | .barBootStatus => withBits (s.seen a) 2 2 (b2n s.timeValid)
  | .trkStatus => withBits (s.seen a) 2 2 (b2n (s.roundLen = 0 && !(s.trk l.i).ready.isEmpty))
  | .trkItem => itemMerge (bitsOf (s.regN (a - 4 * l.k)) 30 28) l.k 0 (s.regN a)
  | .meStatus => withBits (withBits (s.seen a) 10 10 (b2n (s.hostBusy l.i))) 2 0 (s.meState l.i)
  | .mePc => match (s.me l.i).run with
    | some r => r.pc.toNat
    | none => 0
  | .meResume => match (s.me l.i).run, (s.me l.i).again with
    | some r, _ => r.resume.toNat
    | none, some (r, f) => if f ≤ s.frame + 1 then r.resume.toNat else 0
    | none, none => 0
  | .glStale => (s.staleGroups l.i).toNat
  | .glRxCh => match (s.gol l.i).rxq with
    | (ch, _) :: _ => 256 + ch.toNat
    | [] => 0
  | .glRxData => match (s.gol l.i).rxq with
    | (_, d) :: _ => d.toNat
    | [] => 0
  | .ntTimeNs => s.ns.toNat
  | .ntTimeFrac => s.ntu.clock.toNat % 2 ^ 32
  | .ntAdj => (BitVec.ofInt 32 s.ntu.d).toNat
  | .entryTable => s.entryWord l.i
  | .ctlStore => if l.i < 12288 then 0 else s.memWord a
  | .scratchMem => if 15360 ≤ l.j then 0 else s.memWord a
  | _ => if l.row.kind.inMem then s.memWord a
    else if l.row.hasShadow then (s.shadowWord a).toNat else s.seen a

/-! ## Latches (R29, R481, R538) -/

/-- A path's latch takes a word's value. -/
def State.latch (s : State) (spi : Bool) (a v : Nat) : State :=
  { s with latches := sset 0 s.latches (pathKey spi a) (BitVec.ofNat 32 v) }

/-- A path's latch. -/
def State.latched (s : State) (spi : Bool) (a : Nat) : Nat := (sget 0 s.latches (pathKey spi a)).toNat

/-- Whether an RC field is in the word. -/
def RegRow.hasRc (r : RegRow) : Bool := r.fields.any (fun f => decide (f.acc = .rc))

/-- A read of a counter that it clears: the counts of this frame stay in it, and are not read (R11, R539). -/
def State.readCount (s : State) (a : Nat) : Nat × State :=
  let n := (s.before a).toNat
  (n, { s.setRegN a (s.regN a - n) with was := sset (resetWord a) s.was a 0 })

/-- A read of the word at `a` on a path: its value, and the state it leaves. -/
def State.readWord (s : State) (spi : Bool) (l : Loc) (a : Nat) : Nat × State :=
  match l.row.kind with
  | .ntPair =>
    if l.j = 0 then
      (s.readValue l a, forEach [1, 2, 3, 4] (fun j s => s.latch spi (a + 4 * j) (s.seen (a + 4 * j))) s)
    else (s.latched spi a, s)
  | .glRxData => (s.readValue l a, s.golMsgPop l.i)
  | _ => match l.row.pair with
    | .low =>
      let hi := match locate (a + 4) with
        | some h => s.readValue h (a + 4)
        | none => 0
      (s.readValue l a, s.latch spi (a + 4) hi)
    | .high => (s.latched spi a, s)
    | .none => if l.row.hasRc then s.readCount a else (s.readValue l a, s)

/-- The words of a READ of `n` words from address `a`, in ascending order (R537), as bytes. -/
def State.readWords (s : State) (spi : Bool) (a n : Nat) : List Byte × State :=
  match n with
  | 0 => ([], s)
  | n + 1 =>
    let r := match locate a with
      | some l => s.readWord spi l a
      | none => (0, s)
    let t := r.2.readWords spi (a + 4) n
    (leBytes 4 r.1 ++ t.1, t.2)

/-! ## Protected memories (R264) -/

/-- The counter of corrected errors of the memory that an address lies in, where the memory has one (R264, R424). -/
def eccCounter (a : Nat) : Option Nat :=
  match locate a with
  | none => none
  | some l => match l.row.kind with
    | .waveMem | .dirMem => some (aCl l.i 0xC38)
    | .acqWeight => some (aCl (l.i / 64) 0xC38)
    | .ctlStore | .entryTable => some 0x90090004
    | _ => none

/-- Whether an address lies in a protected memory (R127, R264, R424). -/
def eccProtected (a : Nat) : Bool :=
  match locate a with
  | none => false
  | some l => match l.row.kind with
    | .waveMem | .dirMem | .progMem | .scratchMem | .rdProg | .rdX | .rdY | .acqWeight | .ctlStore | .entryTable | .pcGraph
    | .snapMem => true
    | _ => false

/-- The corrected errors met by a READ of `n` bytes from address `a` are counted (R264, R424). -/
def State.countEcc (s : State) (a n : Nat) (ecc : Ecc) : State :=
  match eccCounter a with
  | some k => s.count k (ecc.fixed ((a % 8 + n + 7) / 8))
  | none => s

end Sys2Proof.Machine
end

