-- ==== Sys2Proof/Machine/HostCore.lean ====
section
/-!
DEFINITION. The command unit: taking commands in (R86 to R88), acknowledgements (R89), and when the next command
of a queue may start (R90, R91, R97, R109 to R114).
-/
namespace Sys2Proof.Machine

/-! ## Flags of a command (R81) -/

def release (c : HostCmd) : Bool := c.flags.getLsbD 0
def global (c : HostCmd) : Bool := c.flags.getLsbD 1
def ackReq (c : HostCmd) : Bool := c.flags.getLsbD 3

/-! ## Taking in (R86, R88) -/

/-- A command is taken in as the next of its queue (R86); a RECOVER is pending from now on (R114). -/
def State.takeIn (s : State) (op queueByte : Byte) (c : HostCmd) : State :=
  let q := c.queue.val
  let t : Taken := ⟨op, queueByte, c, s.host.order, (s.hq q).peer⟩
  let s1 := s.modHq q (fun h => { h with
    expect := h.expect + 1, waiting := h.waiting ++ [t],
    ackFrom := match h.ackFrom with
      | some f => some f
      | none => some s.ticks })
  let first := t.isRecover && s.host.recover.isNone
  let s2 := { s1 with host := { s1.host with
    order := s1.host.order + 1,
    recover := if first then some t else s1.host.recover,
    recoverAt := if first then s.frame else s1.host.recoverAt } }
  if ackReq c then s2.sendAck q else s2

/-- A command of the current epoch arrives (R86). -/
def State.arrive (s : State) (op queueByte : Byte) (c : HostCmd) : State :=
  let q := c.queue.val
  let d := (c.seq - (s.hq q).expect).toNat
  if d = 0 then s.takeIn op queueByte c
  else if d ≤ 1023 ∨ 2 ^ 32 - 1024 ≤ d then s.sendAck q
  else s.count 0x01000058 1

/-- The host acknowledges the completions of queue `q` up to and including `n` (R89). -/
def State.applyAck (s : State) (q : Nat) (n : Word) : State :=
  s.modHq q (fun h => { h with
    unacked := h.unacked.filter (fun c => decide (2 ^ 31 ≤ (n - c.seq).toNat)) })|>.drainAborts q

/-! ## Starting (R90, R91, R97, R109 to R114) -/

/-- The bytes that a command reaches in the control space: first address and length, and whether it reads
(R109). -/
def Taken.reach (t : Taken) : Option (Nat × Nat × Bool) :=
  let p := t.cmd.payload
  match t.op.toNat with
  | 1 => some (t.cmd.arg.toNat, p.length, false)
  | 2 => some (t.cmd.arg.toNat, leAt p 0 4, true)
  | 3 => some (t.cmd.arg.toNat, leAt p 4 4, false)
  | _ => none

/-- What a command that has started still has to reach: a port of a waveform slice works through its range frame by
frame (R261, R262). -/
def State.left (s : State) (u : Taken) : Option (Nat × Nat × Bool) :=
  let stores := s.clusters.flatMap (fun (c : Nat × Cluster) => c.2.port.filterMap (fun j => match j.kind, j.cmd with
    | .write a, some x => if x.order = u.order then some (a, j.left.length, false) else none
    | _, _ => none))
  let reads := s.clusters.flatMap (fun (c : Nat × Cluster) => c.2.reads.filterMap (fun j =>
    if j.cmd.order = u.order then some (j.addr, j.left, true) else none))
  match stores ++ reads with
  | x :: _ => some x
  | [] => u.reach

/-- Whether the command `t` and the started command `u` have a byte in common that `u` still has to reach, and one of
them reads what the other writes (R109, R110); two writes keep their order in the port (R262). -/
def State.clashes (s : State) (t u : Taken) : Bool :=
  match t.reach, s.left u with
  | some (a, n, r), some (b, m, w) => (r != w) && decide (a < b + m ∧ b < a + n)
  | _, _ => false

/-- Whether a STREAM_BLOCK is held at its write port until its ring has room (R97). -/
def State.blockHeld (s : State) (t : Taken) : Bool :=
  s.clusters.any (fun c => c.2.port.any (fun j => j.held && (match j.cmd with
    | some x => decide (x.order = t.order)
    | none => false)))

/-- Whether a started command holds the later commands of its queue: a FENCE, a STREAM_BLOCK without room, a
PAULI_UPDATE without room (R97, R113, R369). -/
def State.holdsQueue (s : State) (t : Taken) : Bool :=
  match t.op.toNat with
  | 6 | 0xA => true
  | 4 => s.blockHeld t
  | _ => false

/-- Whether a command is ordered after every earlier command of its queue (R111, R112). -/
def Taken.ordered (t : Taken) : Bool :=
  release t.cmd || t.op = 5 || t.op = 7 || t.op = 8 || t.op = 9

/-- Whether the command `t`, taken in and not started, may start in this frame (R90, R91, R97, R109 to
R114). A command that has started may complete, and so counts with the completions held (R90; log entry 39). -/
def State.canStart (s : State) (t : Taken) : Bool :=
  let h := s.hq t.cmd.queue.val
  s.hostUp && decide (s.host.lastStart ≠ some s.frame) && decide (h.unacked.length + h.active.length < 1024)
    && h.aborting.isEmpty && h.waiting.head? == some t
    && s.host.recover.all (fun r => decide (t.order ≤ r.order))
    && !(t.ordered && !h.active.isEmpty)
    && !h.active.any s.holdsQueue
    && !s.host.queues.any (fun q => q.2.active.any (fun u => s.clashes t u))

/-- The queues in round-robin order from the one after the last (R91). -/
def State.turns (s : State) : List Nat := (List.range 64).map (fun k => (s.host.lastQueue + 1 + k) % 64)

/-- The command that may start in this frame: that of the first queue in turn whose next command may (R91). -/
def State.nextStart (s : State) : Option Taken :=
  firstSome s.turns (fun q => match (s.hq q).waiting with
    | t :: _ => if s.canStart t then some t else none
    | [] => none)

/-- Whether the command `t` is the one that may start in this frame (R91). -/
def State.myTurn (s : State) (t : Taken) : Bool := s.nextStart == some t

/-- The command leaves the waiting ones and has started (R91). -/
def State.begin (s : State) (t : Taken) : State :=
  let q := t.cmd.queue.val
  let s1 := s.modHq q (fun h => { h with waiting := h.waiting.drop 1, active := h.active ++ [t] })
  { s1 with host := { s1.host with lastStart := some s.frame, lastQueue := q } }

/-- The command of a queue with an opcode and a number that waits to start. -/
def State.waitingCmd (s : State) (op : Byte) (c : HostCmd) : Option Taken :=
  firstSome (s.hq c.queue.val).waiting (fun t => if t.op = op ∧ t.cmd.seq = c.seq then some t else none)

/-- The command of a queue with an opcode and a number that has started. -/
def State.activeCmd (s : State) (op : Byte) (c : HostCmd) : Option Taken :=
  firstSome (s.hq c.queue.val).active (fun t => if t.op = op ∧ t.cmd.seq = c.seq then some t else none)

/-- Every command taken in before order `n` is complete, in all queues or in queue `q` alone (R113). -/
def State.allDone (s : State) (q : Option Nat) (n : Nat) : Bool :=
  s.host.queues.all (fun (x : Nat × HostQ) =>
    (match q with
      | some k => decide (x.1 ≠ k)
      | none => false)
    || (x.2.active ++ x.2.waiting ++ x.2.aborting).all (fun t => decide (n ≤ t.order)))

/-- Whether the commands that a FENCE covers are complete (R113). -/
def State.fenceMet (s : State) (t : Taken) : Bool :=
  s.allDone (if global t.cmd then none else some t.cmd.queue.val) t.order

end Sys2Proof.Machine
end

