-- ==== Sys2Proof/Machine/HostCmd.lean ====
section
/-!
DEFINITION. What each host command does once it starts (R95 to R107, R122, R123, R136, R261, R262, R276, R368, R531,
R532), and its refusals.
-/
namespace Sys2Proof.Machine

/-! ## WRITE and FILL (R96, R107, R262) -/

/-- The 32-bit words of a payload (R81). -/
def payloadWords (p : List Byte) : List Word :=
  (pieces 4 p (p.length / 4)).map (fun b => BitVec.ofNat 32 (leNat b))

/-- The slice that an address of the waveform memory lies in. -/
def waveSlice (a : Nat) : Option Nat :=
  if 0x80000000 ≤ a ∧ a < 0x90000000 then some ((a - 0x80000000) / 0x1000000) else none

/-- A job joins the write port of slice `c`; it can have the port in the first frame after this one (R262). -/
def State.joinPort (s : State) (c : Nat) (kind : JobKind) (data : List Byte) (cmd : Option Taken)
    (from_ : Nat) : State :=
  s.modCl c (fun x => { x with port := x.port ++ [⟨kind, data, from_, cmd, false, false, false⟩] })

/-- A WRITE or FILL of `ws` from address `a`: refused as a whole, stored through a write port, or written in this
frame, with what the write sets in motion (R59, R96, R107, R262). -/
def State.writeCommand (s : State) (t : Taken) (fill : Bool) (a : Nat) (ws : List Word) : State :=
  if ws.isEmpty then s.complete t .ok []
  else if !s.writeMode false a then s.complete t .modeRefused []
  else match s.writeRefused false fill a ws with
    | some (st, b) => s.complete t st (leBytes 4 b)
    | none => match waveSlice a with
      | some c => s.joinPort c (.write a) (ws.flatMap (fun w => leBytes 4 w.toNat)) (some t) (s.frame + 1)
      | none =>
        let done (s : State) : State := ((s.settled t).applyWords false a ws).complete t .ok []
        (done s).afterWrite done s.split a ws

/-- The WRITE command `t` (R95, R96). -/
def State.doWrite (s : State) (t : Taken) : State :=
  let p := t.cmd.payload
  if p.length % 4 ≠ 0 ∨ 8192 < p.length then s.complete t .lengthRefused []
  else s.writeCommand t false t.cmd.arg.toNat (payloadWords p)

/-- The FILL command `t` (R95, R96). No block holds more than 4,194,304 words, so that a longer fill crosses out of
its block. -/
def State.doFill (s : State) (t : Taken) : State :=
  let p := t.cmd.payload
  let n := leAt p 4 4
  if p.length ≠ 8 then s.complete t .lengthRefused []
  else if n = 0 then s.complete t .zeroRefused []
  else if n % 4 ≠ 0 then s.complete t .rangeRefused []
  else s.writeCommand t true t.cmd.arg.toNat
    (List.replicate (min (n / 4) 4194305) (BitVec.ofNat 32 (leAt p 0 4)))

/-! ## READ (R96, R261, R264, R537) -/

/-- The READ command `t`; `ecc` is what a register or memory window met (R264). A READ of a waveform slice waits
for the host slot of its read port (R261). -/
def State.doRead (s : State) (t : Taken) (ecc : Ecc) : State :=
  let p := t.cmd.payload
  let n := leAt p 0 4
  let a := t.cmd.arg.toNat
  if p.length ≠ 4 then s.complete t .lengthRefused []
  else if n = 0 then s.complete t .zeroRefused []
  else if n % 4 ≠ 0 ∨ s.maxPayload (s.queuePort t.cmd.queue.val) t.peer < n then s.complete t .rangeRefused []
  else match s.readRefused false a (n / 4) with
    | some b => s.complete t .addrRefused (leBytes 4 b)
    | none => match waveSlice a with
      | some c => s.modCl c (fun x => { x with reads := x.reads ++ [⟨t, a, n, [], s.frame + 1⟩] })
      | none =>
        match eccProtected a, ecc with
        | true, .uncorrectable => s.complete t .eccUncorr []
        | pr, e =>
          let s1 := if pr then s.countEcc a n e else s
          let r := s1.readWords false a (n / 4)
          r.2.complete t .ok r.1

/-- The READ at the host slot of slice `c` captures its next 384 bytes (R261), and completes with its last. -/
def State.readSlice (s : State) (c : Nat) (j : ReadJob) (rest : List ReadJob) (ecc : Ecc) : State :=
  let free (s : State) : State :=
    s.modCl c (fun x => { x with reads := rest.map (fun r => { r with from_ := max r.from_ (s.frame + 1) }) })
  match ecc with
  | .uncorrectable => (free s).complete j.cmd .eccUncorr []
  | e =>
    let n := min 384 j.left
    let s1 := s.countEcc j.addr n e
    let got := j.got ++ s1.bytesAt j.addr n
    if j.left ≤ 384 then (free s1).complete j.cmd .ok got
    else s1.modCl c (fun x => { x with
      reads := { j with addr := j.addr + n, left := j.left - n, got := got } :: rest })

/-- The READ of a waveform slice that has started goes on, when the host slot is its own (R261). -/
def State.readOn (s : State) (t : Taken) (ecc : Ecc) : State :=
  match waveSlice t.cmd.arg.toNat with
  | none => s
  | some c => match (s.cl c).reads with
    | j :: rest => if j.cmd.order = t.order ∧ j.from_ ≤ s.frame then s.readSlice c j rest ecc else s
    | [] => s

/-! ## STREAM_BLOCK (R97, R276) -/

/-- Whether the ring of cluster `c` has room for `n` more bytes after what the jobs `before` it bring (R276). Only the jobs
ahead of a block in its port count, and none that started after it (DESIGN CHOICE, log entry 69). -/
def State.ringRoom (s : State) (c : Nat) (before : List PortJob) (n : Nat) : Bool :=
  decide ((s.cl c).ring.length + (before.map PortJob.streamLeft).sum + n ≤ s.ringSize c)

/-- The jobs `l` of the write port of cluster `c`, behind those of `before`: the STREAM_BLOCKs for which the ring has
room are held no longer (R97, R276). -/
def State.roomFor (s : State) (c : Nat) (before l : List PortJob) : List PortJob :=
  match l with
  | [] => []
  | j :: rest =>
    let k := if j.held then { j with held := !s.ringRoom c before j.left.length } else j
    k :: s.roomFor c (before ++ [k]) rest

/-- A STREAM_BLOCK that has started takes its place at the write port; without room in its ring it is held there, and
what has started after it waits behind it (R97, R262, R276). -/
def State.streamJob (s : State) (t : Taken) : State :=
  let c := t.cmd.arg.toNat
  let held := !s.ringRoom c (s.cl c).port t.cmd.payload.length
  s.modCl c (fun x => { x with
    port := x.port ++ [⟨.stream, t.cmd.payload, s.frame + 1, some t, false, false, held⟩] })

/-- The STREAM_BLOCK command `t` (R95, R276). -/
def State.doStream (s : State) (t : Taken) : State :=
  let n := t.cmd.payload.length
  if n = 0 then s.complete t .zeroRefused []
  else if n % 16 ≠ 0 ∨ 8192 < n then s.complete t .lengthRefused []
  else if 16 ≤ t.cmd.arg.toNat ∨ s.ringSize t.cmd.arg.toNat = 0 then s.complete t .rangeRefused []
  else s.streamJob t

/-! ## COMMIT (R122, R123) -/

/-- The effective frame of a COMMIT with its ARG and F; none where it is refused (R123). -/
def State.commitFrame (s : State) (arg f : Nat) : Option Nat :=
  match arg with
  | 0 => some (s.frame + 1)
  | 1 => if f ≤ s.frame then some (s.frame + 1) else if s.frame + 2 ^ 32 < f then none else some f
  | 2 => s.boundaryFrom (s.frame + 1)
  | _ => none

/-- The COMMIT command `t` (R95, R122, R123). -/
def State.doCommit (s : State) (t : Taken) : State :=
  let p := t.cmd.payload
  let gs := payloadWords (p.drop 8)
  if p.length < 8 ∨ p.length % 4 ≠ 0 then s.complete t .lengthRefused []
  else if gs.isEmpty then s.complete t .zeroRefused []
  else match s.commitFrame t.cmd.arg.toNat (leAt p 0 8), gs.all (fun g => groupListed g.toNat) with
    | some f, true =>
      let k := 1 + (s.commits.map PendingCommit.order).foldl max 0
      { s with commits := s.commits ++ [⟨f, gs, some t, 0, k⟩] }
    | _, _ => s.complete t .rangeRefused []

/-! ## FENCE (R113) -/

/-- The FENCE command `t`; where nothing it covers is open, it is complete at once (R113). -/
def State.doFence (s : State) (t : Taken) : State :=
  if !t.cmd.payload.isEmpty then s.complete t .lengthRefused []
  else if t.cmd.arg ≠ 0 then s.complete t .rangeRefused []
  else if s.fenceMet t then s.complete t .ok [] else s

/-! ## PAULI_UPDATE (R368, R369) -/

/-- The PAULI_UPDATE command `t`. -/
def State.doPauli (s : State) (t : Taken) : State :=
  let p := t.cmd.payload
  let ok := match s.mode with
    | .ready | .run => true
    | _ => false
  if p.length < 8 ∨ p.length % 4 ≠ 0 then s.complete t .lengthRefused []
  else if p.length = 8 then s.complete t .zeroRefused []
  else if t.cmd.arg ≠ 0 then s.complete t .rangeRefused []
  else if !ok then s.complete t .modeRefused []
  else if s.roundLen = 0 ∨ s.roundAt s.frame + 2 ^ 20 < leAt p 0 8 then s.complete t .rangeRefused []
  else if s.pauliFits t then s.holdPauli t else s

/-! ## The recorder (R531, R532) -/

/-- A RECORDER_READ copies its next record, and completes with its last (R531). -/
def State.copyRecord (s : State) (j : ReadJob) : State :=
  let got := j.got ++ s.bytesAt (aRec j.addr) 64
  let others := s.host.records.filter (fun r => decide (r.cmd.order ≠ j.cmd.order))
  if j.left ≤ 1 then
    ({ s with host := { s.host with records := others } }).complete j.cmd .ok got
  else { s with host := { s.host with
    records := others ++ [⟨j.cmd, j.addr + 1, j.left - 1, got, s.frame + 1⟩] } }

/-- The RECORDER_READ command `t` (R95, R531); a count whose records do not fit the largest payload is outside the form
as one above 128 is (R84; log entry 37). -/
def State.doRecords (s : State) (t : Taken) : State :=
  let p := t.cmd.payload
  let n := leAt p 0 4
  if p.length ≠ 4 then s.complete t .lengthRefused []
  else if n = 0 then s.complete t .zeroRefused []
  else if 128 < n ∨ s.maxPayload (s.queuePort t.cmd.queue.val) t.peer < 64 * n ∨ 9216 < t.cmd.arg.toNat + n then s.complete t .rangeRefused []
  else s.copyRecord ⟨t, t.cmd.arg.toNat, n, [], s.frame⟩

/-- The RECORDER_READ that has started goes on (R531). -/
def State.recordsOn (s : State) (t : Taken) : State :=
  match firstSome s.host.records (fun j => if j.cmd.order = t.order then some j else none) with
  | some j => if j.from_ ≤ s.frame then s.copyRecord j else s
  | none => s

/-- The RECORDER_CLEAR command `t`; `sigOk` says that its signature verifies (R95, R532). -/
def State.doClear (s : State) (t : Taken) (sigOk : Bool) : State :=
  let n := t.cmd.payload.length
  if n ≠ 0 ∧ n ≠ 120 then s.complete t .lengthRefused []
  else if n ≠ 0 ∧ t.cmd.arg ≠ 0 then s.complete t .rangeRefused []
  else s.clearAttempt t sigOk

/-! ## STREAM_RESEND (R104) -/

/-- The frame of a stream with a SEQ in the replay buffer. -/
def State.replayed (s : State) (op : Nat) (seq : Word) : Option TxFrame :=
  firstSome s.host.replay (fun f => if f.opcode.toNat = op ∧ f.seq = seq then some f else none)

/-- Frames are queued once more, with RESENT set, unless their port carries no streams (R78, R104). A frame keeps the
length, the header and the addresses that it was formed with (DESIGN CHOICE, log entry 68). -/
def State.resendFrames (s : State) (fs : List TxFrame) : State :=
  let k := s.streamPort
  forEach fs (fun f s =>
    if s.carries k then s.queueTx k { f with kind := .reply, flags := f.flags ||| 64 } else s) s

/-- The STREAM_RESEND command `t`; `ecc` is what it meets in the replay buffer (R95, R104, R127). In SAFE an uncorrectable
error is only recorded (R134), and the command completes with ECC_UNCORR (DESIGN CHOICE, log entry 68). -/
def State.doResend (s : State) (t : Taken) (ecc : Ecc) : State :=
  let p := t.cmd.payload
  let op := t.cmd.arg.toNat
  let n := leAt p 4 4
  if p.length ≠ 8 then s.complete t .lengthRefused []
  else if n = 0 then s.complete t .zeroRefused []
  else if 1024 < n ∨ (op ≠ 0x80 ∧ op ≠ 0x81) then s.complete t .rangeRefused []
  else
    let next := if op = 0x81 then s.host.event.next else s.host.result.next
    let seqs := (List.range n).map (fun i => BitVec.ofNat 32 (leAt p 0 4 + i))
    if seqs.any (fun q => decide ((q - next).toNat < 2 ^ 31)) then s.complete t .rangeRefused []
    else
      let fs := seqs.filterMap (fun q => s.replayed op q)
      if fs.length < n then
        let oldest := firstSome s.host.replay (fun f => if f.opcode.toNat = op then some f.seq else none)
        s.complete t .resendExpired (leBytes 4 (oldest.getD next).toNat)
      else if ecc = .uncorrectable then
        let s1 := s.eccFault none 10 (leAt p 0 4)
        if s.mode = .safe then s1.complete t .eccUncorr [] else s1
      else (s.resendFrames fs).complete t .ok []

/-! ## RECOVER (R114, R136) -/

/-- The refusal of a RECOVER in the mode in force (R43, R64, R65, R136, R510, R548). -/
def State.recoverBad (s : State) : Option Status :=
  if s.mode ≠ .safe then some .modeRefused
  else if s.fld 0x40 5 5 = 1 then some .bootIncomplete
  else if s.frame < s.modes.recoverFrom ∨ s.thermLevel = 3 ∨ s.fld 0x11C 0 0 = 0 then some .modeRefused
  else none

/-- The RECOVER command `t`, as it starts: refused, or pending on until what it covers is complete (R114). -/
def State.doRecover (s : State) (t : Taken) : State :=
  if !t.cmd.payload.isEmpty then s.complete t .lengthRefused []
  else if t.cmd.arg ≠ 0 then s.complete t .rangeRefused []
  else match s.recoverBad with
    | some st => s.complete t st []
    | none => { s with host := { s.host with recover := some t } }

/-- The answer to a command that carries another epoch than the device's: unsequenced, and OK for a RECOVER of
the epoch before (R92, R114). -/
def State.answerStale (s : State) (q : Nat) (op : Byte) (ok : Bool) (seq tag : Word)
    (peer : Option Peer) : State :=
  s.sendReply q (cplOpcode op) (if ok then 0 else Status.staleEpoch.code) 0 tag seq [] false true peer

/-- The capture units and the D-bits as RECOVER leaves them (R136). -/
def State.recoverCapture (s : State) : State :=
  let s1 := forEach (List.range 32) (fun n s => s.setFld (aSnap n 0xC) 1 0 0) s
  let s2 := forEach (List.range 64) (fun t s => s.setFld (aTrace t 0) 31 31 0) s1
  let s3 := { s2 with cap := { s2.cap with trace := [], snap := [], merge := [] } }
  let s4 := forEach (s3.dbits.map (fun (d : Nat × DBit) => d.1)) (fun i s => s.clearDbit i) s3
  forEach (List.range 8) (fun p s => s.markStale p 0xFFFFFFFF s.frame) s4

/-- RECOVER takes effect (R58, R85, R93, R114, R136, R247, R297, R357, R458): it completes as the first
datagram of the new epoch, and every command taken in while it was pending is answered with STALE_EPOCH. Frames that
STREAM_RESEND has queued before it are not sent any more (R104); completions and acknowledgements that wait at a port are
(DESIGN CHOICE, log entry 68). -/
def State.recovered (s : State) (r : Taken) : State :=
  let stale := s.host.queues.map (fun (q : Nat × HostQ) => (q.1, q.2.waiting))
  let old := s.epoch
  let s1 := s.setFld 0x01000010 15 0 (old + 1)
  let s2 := { s1 with host := { s1.host with
    queues := [], recover := none, records := [], result := .init, event := .init, replay := [],
    ports := s1.host.ports.map (fun (p : Nat × Port) => (p.1, { p.2 with waiting := p.2.waiting.filter (fun f => !f.isReplay) })) } }
  let s3 := forEach (List.range 16) (fun c s => s.resetCluster c) s2
  let s4 := (s3.recoverCapture.clearChecks.setReg 0x64 0).idleChains
  let s5 := forEach (List.range 1024) (fun i s => s.clearChain i) { s4 with
    mode := .ready, modes := { s4.modes with since := s4.ticks } }
  let s6 := (s5.record 0x24 (leBytes 2 old ++ leBytes 2 s5.epoch)).complete r .ok []
  forEach stale (fun (q : Nat × List Taken) s =>
    forEach q.2 (fun t s => s.answerStale q.1 t.op (t.op = 0x0D) t.cmd.seq t.cmd.tag t.peer) s) s6

/-! ## Starting a command (R91, R100, R516) -/

/-- The refusal of a command whose opcode or QUEUE byte is not one of R95 (R100). -/
def State.refuseOpcode (s : State) (t : Taken) : State :=
  s.complete t .opcodeRefused ([t.op, t.queueByte, 0, 0])

/-- Whether a command is one of R95 (R100). -/
def Taken.listed (t : Taken) : Bool :=
  decide (1 ≤ t.op.toNat ∧ t.op.toNat ≤ 0xE) && decide (t.queueByte.toNat < 64)

/-- The command `t` has started: what it does (R95). In BOOT only READ and RECORDER_READ run (R516). -/
def State.runTaken (s : State) (t : Taken) (ecc : Ecc) (sigOk : Bool) : State :=
  if !t.listed then s.refuseOpcode t
  else if s.mode = .boot ∧ t.op ≠ 2 ∧ t.op ≠ 0xB then s.complete t .modeRefused []
  else match t.op.toNat with
    | 1 => s.doWrite t
    | 2 => s.doRead t ecc
    | 3 => s.doFill t
    | 4 => s.doStream t
    | 5 => s.doCommit t
    | 6 => s.doFence t
    | 7 => s.startCommand t
    | 8 => s.stopCommand t
    | 9 => s.modeCommand t
    | 0xA => s.doPauli t
    | 0xB => s.doRecords t
    | 0xC => s.doClear t sigOk
    | 0xD => s.doRecover t
    | _ => s.doResend t ecc

/-- The command `c` with an opcode: taken in now where it has not been, and started when its turn has come. -/
def State.runCmd (s : State) (op : Byte) (c : HostCmd) (ecc : Ecc) (sigOk : Bool) : State :=
  if !s.hostUp then s
  else
    let s1 := match s.waitingCmd op c with
      | some _ => s
      | none => s.arrive op (BitVec.ofNat 8 c.queue.val) c
    match s1.waitingCmd op c with
    | some t => if s1.myTurn t then (s1.begin t).runTaken t ecc sigOk else s1
    | none => s1

end Sys2Proof.Machine
end

