-- ==== Sys2Proof/Machine/HostLink.lean ====
section
/-!
DEFINITION. The host port: received frames (R71 to R79, R82, R83, R86 to R92), retransmission and streams (R88,
R89, R102), transmission (R103), and loss and return of a link (R75).
-/
namespace Sys2Proof.Machine

/-! ## Reception -/

/-- Whether a port is in use (R71). -/
def State.portUsed (s : State) (k : Nat) : Bool := s.split || decide (k = 0)

/-- A dropped frame is counted in `HOST.DROP_CNT` k (R73, R76, R79, R82, R83, R86). -/
def State.dropFrame (s : State) (k : Nat) : State := s.count (0x01000040 + 4 * k) 1

/-- The factory MAC address of set `k` (R78, R564). -/
def factoryMac (k : Nat) : BitVec 48 :=
  BitVec.ofNat 48 ((resetWord (aHostSet k 0)).toNat % 2 ^ 16 * 2 ^ 32 + (resetWord (aHostSet k 4)).toNat)

/-- Whether the filter of a port passes a frame to Abral (R77), or that of bootstrap (R78). -/
def State.filterPasses (s : State) (k : Nat) (f : EthFrame) (ip : IpPart) : Bool :=
  if s.bootstrap k then f.dstMac == factoryMac k && decide (ip.dstPort = 43040)
  else
    let v6 := s.fld (aHostSet k 0x3C) 1 1 = 1
    let ports := s.regN (aHostSet k 0x38)
    let host := if v6 then s.ipv6At (aHostSet k 0x28) else BitVec.ofNat 128 (s.regN (aHostSet k 0x14))
    f.dstMac == s.macAt (aHostSet k 0) && s.vlanOk f && decide (ip.v6 = v6) && s.ipIsDevice k ip && ip.src == host
      && ip.dstPort == BitVec.ofNat 16 (bitsOf ports 15 0) && ip.srcPort == BitVec.ofNat 16 (bitsOf ports 31 16)

/-- Whether a datagram has a form the device refuses (R79). -/
def badForm (ip : IpPart) : Bool :=
  ip.irregular || (if ip.checksumZero then ip.v6 else !ip.checksumOk)

/-- The CRC field that a payload has (R83). -/
def payloadCrc (p : List Byte) : Nat := if p.isEmpty then 0 else crc32c p

/-- An Abral datagram that has passed its checks: an ACK, or a command (R86, R89, R92, R100). An ACK whose QUEUE [7:6] is
not 0 is one of the queue that [5:0] name (DESIGN CHOICE, log entry 68). -/
def State.takeDatagram (s : State) (l : List Byte) : State :=
  let queueByte := BitVec.ofNat 8 (leAt l 1 1)
  let q : Fin 64 := Fin.ofNat 64 (leAt l 1 1 % 64)
  let op := BitVec.ofNat 8 (leAt l 2 1)
  let flags := BitVec.ofNat 16 (leAt l 4 2)
  let epoch := leAt l 6 2
  let seq := BitVec.ofNat 32 (leAt l 8 4)
  let tag := BitVec.ofNat 32 (leAt l 0x10 4)
  let ack (s : State) : State :=
    if flags.getLsbD 2 then s.applyAck q.val (BitVec.ofNat 32 (leAt l 0xC 4)) else s
  if op = 0 then if epoch = s.epoch then ack s else s
  else if epoch ≠ s.epoch then
    s.answerStale q.val op (op = 0x0D && (epoch + 1) % 65536 == s.epoch) seq tag (s.hq q.val).peer
  else
    let d := (seq - (s.hq q.val).expect).toNat
    let c : HostCmd := ⟨q, seq, tag, flags, BitVec.ofNat 32 (leAt l 0x18 4), l.drop 32⟩
    let s1 := s.arrive op queueByte c
    if d ≤ 1023 ∨ 2 ^ 32 - 1024 ≤ d then ack s1 else s1

/-- A datagram that a port's filter has passed (R71, R78, R79, R82, R83). An acknowledgement owed to another sender in
bootstrap goes out before this one's frame is taken (R78, log entry 68). -/
def State.takeAbral (s : State) (k : Nat) (f : EthFrame) (ip : IpPart) : State :=
  let l := f.payload
  let len := leAt l 0x14 2
  let q := leAt l 1 1 % 64
  if badForm ip then s.dropFrame 3
  else if l.length < 32 ∨ leAt l 0 1 ≠ 1 ∨ 8192 < len ∨ ip.udpLength ≠ 32 + len ∨ l.length ≠ 32 + len then
    s.dropFrame 4
  else if leAt l 0x1C 4 ≠ payloadCrc (l.drop 32) then s.dropFrame 5
  else if s.split ∧ q / 16 ≠ k then s.dropFrame 7
  else if s.bootstrap k ∧ q ≠ 0 then s
  else
    let p := some ⟨f.srcMac, ip.v6, ip.src, ip.srcPort⟩
    let s1 := if s.bootstrap k && (s.hq q).ackFrom.isSome && (s.hq q).peer != p then s.sendAck q else s
    (s1.modHq q (fun h => { h with peer := p })).takeDatagram l

/-- RECEIVE_FRAME: a frame on a port is checked, filtered and handed to Abral or to the network time unit, or
dropped and counted (R71 to R79). -/
def execReceiveFrame (port : Fin 4) (f : EthFrame) (s : State) : Host.Outcome State Fault Refusal :=
  .next (
    let k := port.val
    if !s.hostUp ∨ !s.portUsed k ∨ !(s.hport k).up then s
    else if !f.fcsOk ∨ 9216 < f.length then s.dropFrame 0
    else if f.length < 64 then s
    else if f.etherType = 0x8808 then s.dropFrame 1
    else match s.ptpTransport k f, f.ip with
      | some tr, some ip =>
        if tr ≠ 0 ∧ badForm ip then s.dropFrame 3
        else
          let (n, s1) := s.fresh
          s1.ptpTake k f tr (Config.position n)
      | some tr, none =>
        let (n, s1) := s.fresh
        s1.ptpTake k f tr (Config.position n)
      | none, some ip => if s.filterPasses k f ip then s.takeAbral k f ip else s.dropFrame 2
      | none, none => s.dropFrame 2)

/-- ACK: a lone acknowledgement of the host, of the current epoch (R89, R92). -/
def execAck (queue : Fin 64) (epoch : BitVec 16) (n : Word) (ackValid : Bool) (s : State) :
    Host.Outcome State Fault Refusal :=
  .next (if s.hostUp && ackValid && decide (epoch.toNat = s.epoch) then s.applyAck queue.val n else s)

/-! ## Retransmission and streams -/

/-- ACK_DELAY: the oldest command not acknowledged has waited `HOST.ACK_DELAY` frames (R88). -/
def execAckDelay (queue : Fin 64) (s : State) : Host.Outcome State Fault Refusal :=
  .next (match (s.hq queue.val).ackFrom with
    | some f => if f + s.fld 0x01000018 15 0 ≤ s.ticks then s.sendAck queue.val else s
    | none => s)

/-- A completion whose interval has ended is sent again, or discarded after its last resend (R89). It is sent at the
length that it was formed with, whatever `HOST.MTU` is by now (DESIGN CHOICE, log entry 68). -/
def State.resend (s : State) (q : Nat) (c : Completion) : State :=
  let us := s.fld 0x01000014 15 0
  if s.fld 0x01000014 19 16 ≤ c.resends then
    let s1 := s.modHq q (fun h => { h with unacked := h.unacked.filter (fun x => decide (x.seq ≠ c.seq)) })
    ((s1.count 0x01000024 1).record 0x20 (leBytes 1 q ++ leBytes 4 c.seq.toNat)).drainAborts q
  else
    let next := max (1000 * us) (min (2 * c.interval) 3200000)
    let s1 := s.modHq q (fun h => { h with unacked := h.unacked.map (fun x =>
      if x.seq = c.seq then { x with sentAt := s.ticks, interval := next, resends := c.resends + 1 } else x) })
    s1.sendReply q c.opcode.toNat c.status.code c.seq c.tag c.cmdSeq c.payload true false c.peer

/-- CPL_RTO: completions whose interval has ended without acknowledgement; on a port that is down they are held
(R75, R89). -/
def execCplRto (queue : Fin 64) (s : State) : Host.Outcome State Fault Refusal :=
  .next (
    let q := queue.val
    if !(s.hport (s.queuePort q)).up then s
    else forEach ((s.hq q).unacked.filter (fun c => decide (c.sentAt + c.interval ≤ s.ticks)))
      (fun c s => s.resend q c) s)

/-- The frames of RESULT or EVENT that are full go out (R102). -/
def State.formFull (s : State) (event : Bool) : State :=
  let room := s.maxPayload s.streamPort none / 16 * 16
  let recs (s : State) : List (Nat × List Byte) := if event then s.host.event.recs else s.host.result.recs
  repeatN (recs s).length (fun s =>
    if room < ((recs s).map (fun r => r.2.length)).sum + 16 then s.formStream event else s) s

/-- STREAM_FLUSH: a stream frame is full, or its oldest record has waited `HOST.STREAM_FLUSH` frames (R102). -/
def execStreamFlush (event : Bool) (s : State) : Host.Outcome State Fault Refusal :=
  .next (
    let st := if event then s.host.event else s.host.result
    if !s.streaming then s
    else match st.recs with
      | [] => s
      | (f, _) :: _ =>
        if f + s.fld 0x0100001C 15 0 ≤ s.ticks then s.flushStream event else s.formFull event)

/-! ## Transmission (R103) -/

/-- The credit of the reservation in this frame: 12 bytes a frame, two largest frames deep. -/
def State.creditNow (s : State) (k : Nat) : Nat :=
  let p := s.hport k
  min (2 * (s.fld 0x01000008 13 0 + 20)) (p.credit + 12 * (s.ticks - p.creditAt))

/-- Frames that `n` bytes take on a port: 50 bytes a frame, or 12.5 when it is split. -/
def State.wireFrames (s : State) (n : Nat) : Nat := if s.split then (2 * n + 24) / 25 else (n + 49) / 50

/-- A frame goes onto the wire. -/
def State.sendNow (s : State) (k : Nat) (f : TxFrame) : State :=
  s.modPort k (fun p => { p with wire := some f, free := s.ticks + s.wireFrames f.wire })

/-- A waiting frame goes onto the wire, with the credit that it uses; a TRACE frame, which may have waited for its port to
carry streams, takes the header in force now. -/
def State.sendWaiting (s : State) (k : Nat) (f : TxFrame) (cost : Nat) : State :=
  let left := s.creditNow k - cost
  let g := if f.kind == .trace then { f with net := some (s.netHeader k none) } else f
  (s.modPort k (fun p => { p with waiting := p.waiting.erase f, credit := left, creditAt := s.ticks })).sendNow k g

/-- The first waiting frame of a kind. -/
def Port.firstOf (p : Port) (k : TxKind) : Option TxFrame := p.waiting.find? (fun f => f.kind == k)

/-- Whether a frame of the stream engine, waiting at a port or on its wire, was formed before FENCE.H number `g` (R118;
log entry 37). -/
def State.olderWaits (s : State) (g : Nat) : Bool :=
  (List.range 4).any (fun k => s.portUsed k
    && ((if s.ticks < (s.hport k).free then (s.hport k).wire.toList else []) ++ (s.hport k).waiting).any (fun f =>
      (f.kind == .stream || f.kind == .trace) && decide (f.gen < g)))

/-- The first waiting stream frame of a kind, where its port carries streams (R75, R78) and no frame from before a
FENCE.H that it follows is still to go (R118). -/
def State.streamNext (s : State) (k : Nat) (kind : TxKind) : Option TxFrame :=
  if s.carries k then ((s.hport k).firstOf kind).bind (fun f => if s.olderWaits f.gen then none else some f) else none

/-- The next frame of a port by precedence (R103). -/
def State.pickFrame (s : State) (k : Nat) : State :=
  let launch := if k = s.ntuPort then s.launchNext else none
  let stream := (s.streamNext k .stream).bind (fun f => if f.wire ≤ s.creditNow k then some f else none)
  match launch, stream, (s.hport k).firstOf .reply, s.streamNext k .trace with
  | some i, _, _, _ =>
    let r := s.launchSend i
    r.2.sendNow k r.1
  | none, some f, _, _ => s.sendWaiting k f f.wire
  | none, none, some f, _ => s.sendWaiting k f 0
  | none, none, none, some f => s.sendWaiting k f 0
  | none, none, none, none => s

/-- FRAME_END: the frame on the wire ends, and the port picks the next one (R103). -/
def execFrameEnd (port : Fin 4) (s : State) : Host.Outcome State Fault Refusal :=
  .next (
    let k := port.val
    if !s.hostUp ∨ !(s.hport k).up ∨ s.ticks < (s.hport k).free then s
    else (s.modPort k (fun p => { p with wire := none })).pickFrame k)

/-! ## Links (R74, R75) -/

/-- LINK_DOWN: a port loses its link (R75, R106); before the host port trains there is none to lose (R53). -/
def execLinkDown (port : Fin 4) (s : State) : Host.Outcome State Fault Refusal :=
  .next (
    let k := port.val
    if s.hostUp && s.portUsed k && (s.hport k).up then (s.raise 0x01000004 (8 + k)).portDown k else s)

/-- LINK_UP: a port that was down regains its link; the loss is recorded with its duration (R75, R527). -/
def execLinkUp (port : Fin 4) (s : State) : Host.Outcome State Fault Refusal :=
  .next (
    let k := port.val
    if !s.portUsed k || (s.hport k).up then s
    else (s.modPort k (fun p => { p with up := true, free := s.ticks })).record 0x23
      (leBytes 1 k ++ leBytes 8 (s.ticks - (s.hport k).downAt)))

/-- LINK_LOSS_SAFE: a port has stayed down for longer than `HOST.LINK_LOSS_SAFE` milliseconds (R75). -/
def execLinkLossSafe (port : Fin 4) (s : State) : Host.Outcome State Fault Refusal :=
  .next (
    let k := port.val
    let ms := s.fld 0x01000020 15 0
    let active := match s.mode with
      | .ready | .run | .sleep => true
      | _ => false
    if s.portUsed k && !(s.hport k).up && active && decide (ms ≠ 0)
        && decide ((s.hport k).downAt + 1000000 * ms < s.ticks) then s.enterSafe 0x07 (unitDetail (0x20 + k) 0)
    else s)

end Sys2Proof.Machine
end

