-- ==== Sys2Proof/Machine/SpiBus.lean ====
section
/-!
DEFINITION. The management SPI (R516, R521, R522, R538): posted words, READ and STATUS.
-/
namespace Sys2Proof.Machine

/-- An access is refused, which STATUS shows (R521). -/
def State.spiRefuse (s : State) (st : Status) : State :=
  { s with spi := { s.spi with refused := true, code := BitVec.ofNat 4 st.code } }

/-- An access is taken. -/
def State.spiTake (s : State) : State := { s with spi := { s.spi with refused := false, code := 0 } }

/-- Whether a posted word waits at a slice's write port (R262, R522). -/
def State.spiStoring (s : State) : Bool :=
  s.clusters.any (fun c => c.2.port.any (fun j => match j.kind with
    | .spi _ => true
    | _ => false))

/-- `STATUS` [0]: posted words are not applied yet (R522). -/
def State.spiBusy (s : State) : Bool := !s.spi.posted.isEmpty || s.spiStoring

/-- Words leave the posting buffer; `kept` of those in it came before the word whose refusal STATUS shows (R522). -/
def State.spiDrop (s : State) (n : Nat) : State :=
  { s with spi := { s.spi with posted := s.spi.posted.drop n, kept := s.spi.kept - n } }

/-- Words written over the SPI: refused, handed to a write port, or written in this frame (R96, R516, R522). -/
def State.spiApply (s : State) (a : Nat) (ws : List Word) : State :=
  if !s.writeMode true a then s.spiRefuse .modeRefused
  else match s.writeRefused true false a ws with
    | some (st, _) => s.spiRefuse st
    | none => match waveSlice a with
      | some c => s.spiTake.joinPort c (.spi a) (ws.flatMap (fun w => leBytes 4 w.toNat)) none s.frame
      | none =>
        let done (b : State) : State := ({ b with spi := s.spiTake.spi }).applyWords true a ws
        (done s).afterWrite done s.split a ws

/-- The first posted words: the four of a directory entry that one WRITE installs, else one (R265). -/
def postedRun (l : List (Word × Word × Bool)) : List Word :=
  match l with
  | [] => []
  | (a, v, whole) :: _ =>
    let four := l.take 4
    if whole ∧ a.toNat % 16 = 0 ∧ four.map (fun p => p.1) = [a, a + 4, a + 8, a + 12] ∧ four.all (fun p => p.2.2) then
      four.map (fun p => p.2.1)
    else [v]

/-- The next posted word is applied (R522). -/
def State.spiNext (s : State) : State :=
  match s.spi.posted with
  | [] => s
  | (a, _) :: _ =>
    if s.spiStoring ∨ s.mode = .reset then s
    else
      let t := (s.spiDrop (postedRun s.spi.posted).length).spiApply a.toNat (postedRun s.spi.posted)
      if s.spi.kept = 0 then t else { t with spi := { t.spi with refused := s.spi.refused, code := s.spi.code } }

/-- Whether hardware serves the oldest posted word, and not the Barista (R522). -/
def State.spiHardware (s : State) : Bool :=
  match s.spi.posted with
  | [] => false
  | (a, _) :: _ => !(decide (0x03000400 ≤ a.toNat ∧ a.toNat < 0x03002000) || decide (0x03100000 ≤ a.toNat ∧ a.toNat < 0x03200000))

/-- A word enters the posting buffer, or is discarded where 64 words wait (R522); `whole` says that its WRITE installs
whole directory entries. A word takes longer on the pins than hardware takes to apply one, so a full buffer whose oldest
word hardware serves has applied it by then (DEDUCED; log entry 68). -/
def State.spiPost (s : State) (a v : Word) (whole : Bool) : State :=
  if s.mode = .reset then s
  else
    let s1 := if 64 ≤ s.spi.posted.length ∧ s.spiHardware then s.spiNext else s
    if 64 ≤ s1.spi.posted.length then
      let s2 := s1.spiRefuse .lengthRefused
      { s2 with spi := { s2.spi with kept := s2.spi.posted.length } }
    else { s1 with spi := { s1.spi with posted := s1.spi.posted ++ [(a, v, whole)] } }

/-- Words are posted at rising addresses. -/
def State.spiPostAll (s : State) (a : Word) (ws : List Word) (whole : Bool) : State :=
  match ws with
  | [] => s
  | v :: t => (s.spiPost a v whole).spiPostAll (a + 4) t whole

/-- Whether the host's commands of this frame may still come: an SPI access of the frame waits for them (R539). -/
def State.beforeHost (s : State) : Bool := decide (s.phase ≤ 5)

/-- One word written over the SPI: it is posted, and applied where no word waits before it and Abral's accesses of the
frame are over (R539). -/
def State.spiWord (s : State) (a : Nat) (v : Word) : State :=
  let s1 := s.spiPost (BitVec.ofNat 32 a) v false
  if s.spi.posted.isEmpty && !s.beforeHost then s1.spiNext else s1

/-- A READ is refused (R521). -/
def State.spiNoRead (s : State) (st : Status) : State :=
  let s1 := s.spiRefuse st
  { s1 with spi := { s1.spi with read := none, data := [] } }

/-- A READ captures its words, or is refused (R96, R522, R537); `ecc` is what it meets in a protected memory (R264). -/
def State.spiCapture (s : State) (a n : Nat) (ecc : Ecc) : State :=
  match s.readRefused true a n, eccProtected a, ecc with
  | some _, _, _ => s.spiNoRead .addrRefused
  | none, true, .uncorrectable => s.spiNoRead .eccUncorr
  | none, pr, e =>
    let r := (if pr then s.spiTake.countEcc a (4 * n) e else s.spiTake).readWords true a n
    { r.2 with spi := { r.2.spi with read := none, data := payloadWords r.1 } }

/-- A READ that waits captures its words once every earlier posted word is applied (R522). -/
def State.spiReadOn (s : State) (ecc : Ecc) : State :=
  match s.spi.read with
  | some (a, n) => if s.spiBusy ∨ s.mode = .reset then s else s.spiCapture a.toNat n ecc
  | none => s

/-- SPI_WRITE: the words of a WRITE transaction are posted (R521, R522). -/
def execSpiWrite (addr : Word) (words : List Word) (s : State) : Host.Outcome State Fault Refusal :=
  .next (s.spiPostAll addr words (inDirectory addr.toNat && decide (addr.toNat % 16 = 0) && decide (words.length % 4 = 0)))

/-- SPI_POSTED_WORD: the oldest posted word is applied, and a READ that waited for it goes on (R522). -/
def execSpiPostedWord (s : State) : Host.Outcome State Fault Refusal :=
  .next (s.spiNext.spiReadOn (s.ecc 0 0))

/-- A READ begins: it captures its words at once, unless a posted word comes before it or Abral's accesses of the frame
do (R522, R539). -/
def State.spiReadBegin (s : State) (a : Word) (n : Nat) (ecc : Ecc) : State :=
  let s1 := { s with spi := { s.spi with read := some (a, n), data := [] } }
  if s.beforeHost then s1 else s1.spiReadOn ecc

/-- SPI_READ: a READ of `count` words waits for earlier posted words and captures its data; `ecc` is what it meets in
a protected memory where it does not wait (R264, R522). -/
def execSpiRead (addr : Word) (count : Nat) (ecc : Ecc) (s : State) : Host.Outcome State Fault Refusal :=
  .next (if s.mode = .reset then s else s.spiReadBegin addr count ecc)

/-- SPI_STATUS: the STATUS byte goes out (R521). -/
def execSpiStatus (s : State) : Host.Outcome State Fault Refusal :=
  .next (
    if s.mode = .reset then s
    else { s with spi := { s.spi with
      status := BitVec.ofNat 8 (b2n s.spiBusy + 2 * b2n s.spi.refused + 16 * s.spi.code.toNat) } })

/-- SPI_CS_N_RAISE: a READ that still waits is abandoned (R522). -/
def execSpiCsNRaise (s : State) : Host.Outcome State Fault Refusal :=
  .next { s with spi := { s.spi with read := none } }

end Sys2Proof.Machine
end

