-- ==== Sys2Proof/Machine/HostRows.lean ====
section
/-!
DEFINITION. The rows of host commands (R95), and the rows of one-word register writes, which a WRITE command or the
management SPI brings (R538).
-/
namespace Sys2Proof.Machine

/-- A word written to a register: as a WRITE command of four bytes, or over the SPI. -/
def State.oneWrite (s : State) (src : Src) (a : Nat) (v : Word) : State :=
  match src with
  | .abral c =>
    s.runCmd 1 { c with arg := BitVec.ofNat 32 a, payload := leBytes 4 v.toNat } .clean false
  | .spi => s.spiWord a v

/-- A word read from a register: as a READ command of four bytes, or over the SPI. -/
def State.oneRead (s : State) (src : Src) (a : Nat) : State :=
  match src with
  | .abral c => s.runCmd 2 { c with arg := BitVec.ofNat 32 a, payload := leBytes 4 4 } .clean false
  | .spi => s.spiReadBegin (BitVec.ofNat 32 a) 1 .clean

/-- A mode request: as a MODE command, or as a word of `GLOBAL.MODE_REQ` (R43). -/
def State.modeRequest (s : State) (src : ReqSrc) (req : Nat) : State :=
  match src with
  | .modeCmd c => s.runCmd 9 { c with arg := BitVec.ofNat 32 req } .clean false
  | .reg p => s.oneWrite p 0x44 (BitVec.ofNat 32 req)

/-! ## Commands -/

/-- WRITE: every word is checked, then the range is written (R96, R107). -/
def execWrite (c : HostCmd) (s : State) : Host.Outcome State Fault Refusal :=
  .next (s.runCmd 1 c .clean false)

/-- FILL: a pattern is written over a range (R95, R96). -/
def execFill (c : HostCmd) (s : State) : Host.Outcome State Fault Refusal :=
  .next (s.runCmd 3 c .clean false)

/-- STREAM_BLOCK: bytes for the Carafe ring of a cluster (R97, R276). -/
def execStreamBlock (c : HostCmd) (s : State) : Host.Outcome State Fault Refusal :=
  .next (s.runCmd 4 c .clean false)

/-- COMMIT: groups are to be committed in an effective frame (R122, R123). -/
def execCommit (c : HostCmd) (s : State) : Host.Outcome State Fault Refusal :=
  .next (s.runCmd 5 c .clean false)

/-- FENCE: its queue is held until the commands it covers are complete (R113). -/
def execFence (c : HostCmd) (s : State) : Host.Outcome State Fault Refusal :=
  .next (s.runCmd 6 c .clean false)

/-- PAULI_UPDATE: entries are held for their due round (R368, R369). -/
def execPauliUpdate (c : HostCmd) (s : State) : Host.Outcome State Fault Refusal :=
  .next (s.runCmd 0xA c .clean false)

/-- RECORDER_CLEAR: the circulating area is cleared under a token (R532). -/
def execRecorderClear (c : HostCmd) (sigOk : Bool) (s : State) : Host.Outcome State Fault Refusal :=
  .next (s.runCmd 0xC c .clean sigOk)

/-- RECOVER: judged in SAFE, and pending as a global fence (R114, R136). -/
def execRecover (c : HostCmd) (s : State) : Host.Outcome State Fault Refusal :=
  .next (s.runCmd 0xD c .clean false)

/-- STREAM_RESEND: frames of the replay buffer go out again (R104). -/
def execStreamResend (c : HostCmd) (ecc : Ecc) (s : State) : Host.Outcome State Fault Refusal :=
  .next (s.runCmd 0xE c ecc false)

/-- START: RUN is to begin in a start frame (R98). -/
def execStart (c : HostCmd) (s : State) : Host.Outcome State Fault Refusal :=
  .next (s.runCmd 7 c .clean false)

/-- STOP: RUN is to end in a stop frame (R98). -/
def execStop (c : HostCmd) (s : State) : Host.Outcome State Fault Refusal :=
  .next (s.runCmd 8 c .clean false)

/-- READ: a range is checked, and its data captured (R96, R261, R264); a READ of a waveform slice that has started
goes on. -/
def execRead (c : HostCmd) (ecc : Ecc) (s : State) : Host.Outcome State Fault Refusal :=
  .next (match s.activeCmd 2 c with
    | some t => s.readOn t ecc
    | none => s.runCmd 2 c ecc false)

/-- RECORDER_READ: records are copied, one a frame (R531); one that has started goes on. -/
def execRecorderRead (c : HostCmd) (s : State) : Host.Outcome State Fault Refusal :=
  .next (match s.activeCmd 0xB c with
    | some t => s.recordsOn t
    | none => s.runCmd 0xB c .clean false)

/-- OPCODE_REFUSED: a command with an unlisted opcode, or with QUEUE bits [7:6] set, is refused when it starts
(R100). -/
def execOpcodeRefused (c : HostCmd) (opcode queueByte : Byte) (s : State) :
    Host.Outcome State Fault Refusal :=
  .next (
    let qb : Byte := queueByte &&& 0xC0 ||| BitVec.ofNat 8 c.queue.val
    if !s.hostUp ∨ opcode = 0 ∨ (decide (1 ≤ opcode.toNat ∧ opcode.toNat ≤ 0xE) && decide (qb.toNat < 64)) then s
    else
      let s1 := match s.waitingCmd opcode c with
        | some _ => s
        | none => s.arrive opcode qb c
      match s1.waitingCmd opcode c with
      | some t => if s1.myTurn t then (s1.begin t).runTaken t .clean false else s1
      | none => s1)

/-- STREAM_BLOCK_ROOM: a STREAM_BLOCK held for lack of room goes on when its ring has room (R97). -/
def execStreamBlockRoom (cl : Fin 16) (s : State) : Host.Outcome State Fault Refusal :=
  .next (s.modCl cl.val (fun x => { x with port := s.roomFor cl.val [] x.port }))

/-- FENCE_COMPLETE: the FENCE of a queue is complete when all it covers is (R113). -/
def execFenceComplete (queue : Fin 64) (s : State) : Host.Outcome State Fault Refusal :=
  .next (match firstSome (s.hq queue.val).active (fun t => if t.op = 6 then some t else none) with
    | some t => if s.fenceMet t then s.complete t .ok [] else s
    | none => s)

/-- RECOVER_EFFECT: in the frame after the one in which the last command that RECOVER covers is complete, it takes
effect; one that still waits is judged as it starts in this frame (R114, R136). -/
def execRecoverEffect (s : State) : Host.Outcome State Fault Refusal :=
  .next (match s.host.recover with
    | some r =>
      if s.host.recoverAt = s.frame ∨ s.mode ≠ .safe ∨ !s.allDone none r.order then s
      else if (s.hq r.cmd.queue.val).active.contains r then s.recovered r
      else if s.canStart r then
        let s1 := (s.begin r).runTaken r .clean false
        if s1.host.recover = some r then s1.recovered r else s1
      else s
    | none => s)

/-! ## Mode requests -/

/-- MODE_SLEEP: a SLEEP request (R43, R60). -/
def execModeSleep (src : ReqSrc) (s : State) : Host.Outcome State Fault Refusal :=
  .next (s.modeRequest src 1)

/-- MODE_WAKE: a WAKE request (R43, R61). -/
def execModeWake (src : ReqSrc) (s : State) : Host.Outcome State Fault Refusal :=
  .next (s.modeRequest src 2)

/-- MODE_SAFE: a SAFE request (R43, R57). -/
def execModeSafe (src : ReqSrc) (s : State) : Host.Outcome State Fault Refusal :=
  .next (s.modeRequest src 3)

/-- REBOOT: a warm reset, over the management SPI only (R65, R66). -/
def execReboot (src : Src) (s : State) : Host.Outcome State Fault Refusal :=
  .next (s.oneWrite src 0x44 4)

/-! ## Register writes -/

/-- REGISTER_WRITE: a word of any register (R11). -/
def execRegisterWrite (src : Src) (addr v : Word) (s : State) : Host.Outcome State Fault Refusal :=
  .next (s.oneWrite src addr.toNat v)

/-- PORT_RETRAIN: a write of `HOST.PORT_CFG` retrains every port (R74). -/
def execPortRetrain (src : Src) (v : Word) (s : State) : Host.Outcome State Fault Refusal :=
  .next (s.oneWrite src 0x01000000 v)

/-- IP_CFG_VALID: a write of an address set's IP_CFG, whose VALID ends bootstrap (R78). -/
def execIpCfgValid (src : Src) (k : Fin 4) (v : Word) (s : State) : Host.Outcome State Fault Refusal :=
  .next (s.oneWrite src (aHostSet k.val 0x3C) v)

/-- CLUSTER_FAULT_CLEAR: a write that clears FAULTED bits releases their clusters (R130). -/
def execClusterFaultClear (src : Src) (v : Word) (s : State) : Host.Outcome State Fault Refusal :=
  .next (s.oneWrite src 0x64 v)

/-- HOST_CALL: a write of `ME.HOST_CALL` (R419). -/
def execHostCall (src : Src) (cl : Fin 16) (v : Word) (s : State) : Host.Outcome State Fault Refusal :=
  .next (s.oneWrite src (aCl cl.val 0x1010) v)

/-- CONTROL_STORE_INSTALL: the write to offset 0x14 of a control-store word that installs it (R420). -/
def execControlStoreInstall (src : Src) (w : Fin 16384) (v : Word) (s : State) : Host.Outcome State Fault Refusal :=
  .next (s.oneWrite src (0x90000000 + 32 * w.val + 0x14) v)

/-- PROGRAM_WORD_INSTALL: the write to the high half of a program word that installs it (R171). -/
def execProgramWordInstall (src : Src) (cl : Fin 16) (w : Fin 65536) (v : Word) (s : State) : Host.Outcome State Fault Refusal :=
  .next (s.oneWrite src (aCl cl.val (0x80000 + 8 * w.val + 4)) v)

/-- CONVERTER_MODE: a write of a channel's CTRL register, whose MODE mutes it when it changes (R229, R497). -/
def execConverterMode (src : Src) (cls : OutClass) (n : Fin 512) (v : Word) (s : State) : Host.Outcome State Fault Refusal :=
  .next (s.oneWrite src (aOut cls n.val) v)

/-- CHANNEL_ENABLE: a write of a channel's CTRL register, whose ENABLE mutes or unmutes it (R230, R250, R498). -/
def execChannelEnable (src : Src) (cls : OutClass) (n : Fin 512) (v : Word) (s : State) : Host.Outcome State Fault Refusal :=
  .next (s.oneWrite src (aOut cls n.val) v)

/-- CARAFE_FLUSH: a write of `CARAFE.CTRL`, whose FLUSH empties the ring (R275). -/
def execCarafeFlush (src : Src) (cl : Fin 16) (v : Word) (s : State) : Host.Outcome State Fault Refusal :=
  .next (s.oneWrite src (aCl cl.val 0xC04) v)

/-- ZONE: a write of `ACQ.CTRL`, whose new ZONE settles for 10,000 frames (R285). -/
def execZone (src : Src) (n : Fin 32) (v : Word) (s : State) : Host.Outcome State Fault Refusal :=
  .next (s.oneWrite src (aAcq n.val 0) v)

/-- MBOX_IN: a write of `RDSP.MBOX_IN` raises the mailbox request (R338). -/
def execMboxIn (src : Src) (c : Fin 16) (v : Word) (s : State) : Host.Outcome State Fault Refusal :=
  .next (s.oneWrite src (aRd c.val 0x20) v)

/-- PAULI_CLEAR: a write of `PERC.PAULI_CTRL`, whose CLEAR clears the Pauli frame (R354). -/
def execPauliClear (src : Src) (v : Word) (s : State) : Host.Outcome State Fault Refusal :=
  .next (s.oneWrite src 0x60000024 v)

/-- ROUND_ORIGIN_WRITE: the high-word write that moves the round origin (R23, R371). -/
def execRoundOriginWrite (src : Src) (v : Word) (s : State) : Host.Outcome State Fault Refusal :=
  .next (s.oneWrite src 0x110 v)

/-- ROUND_LEN_WRITE: a write of `GLOBAL.ROUND_LEN` (R25, R371). -/
def execRoundLenWrite (src : Src) (v : Word) (s : State) : Host.Outcome State Fault Refusal :=
  .next (s.oneWrite src 0x108 v)

/-- TRACE_OPEN: a write of `CAP.TRACE_CFG`, whose EN = 1 opens the stream (R387). -/
def execTraceOpen (src : Src) (t : Fin 64) (v : Word) (s : State) : Host.Outcome State Fault Refusal :=
  .next (s.oneWrite src (aTrace t.val 0) v)

/-- TRACE_CLOSE: a write of `CAP.TRACE_CFG`, whose EN = 0 closes the stream (R387). -/
def execTraceClose (src : Src) (t : Fin 64) (v : Word) (s : State) : Host.Outcome State Fault Refusal :=
  .next (s.oneWrite src (aTrace t.val 0) v)

/-- SNAP_ARM: a write of `CAP.SNAP_CTRL`, whose ARM begins a re-arm (R392). -/
def execSnapArm (src : Src) (n : Fin 32) (v : Word) (s : State) : Host.Outcome State Fault Refusal :=
  .next (s.oneWrite src (aSnap n.val 0) v)

/-- SNAP_FORCE: a write of `CAP.SNAP_CTRL`, whose FORCE is a trigger (R392). -/
def execSnapForce (src : Src) (n : Fin 32) (v : Word) (s : State) : Host.Outcome State Fault Refusal :=
  .next (s.oneWrite src (aSnap n.val 0) v)

/-- CAL: a write of a Gollet port's CTRL, whose CAL starts calibration (R453). -/
def execCal (src : Src) (p : Fin 8) (v : Word) (s : State) : Host.Outcome State Fault Refusal :=
  .next (s.oneWrite src (aGl p.val 0) v)

/-- MSG_TX: a write of `GL.MSG_TX` queues a MSG flit (R460). -/
def execMsgTx (src : Src) (p : Fin 8) (v : Word) (s : State) : Host.Outcome State Fault Refusal :=
  .next (s.oneWrite src (aGl p.val 0x24) v)

/-- MSG_RX_DATA: a read of `GL.MSG_RX_DATA` removes the received message (R460). -/
def execMsgRxData (src : Src) (p : Fin 8) (s : State) : Host.Outcome State Fault Refusal :=
  .next (s.oneRead src (aGl p.val 0x2C))

/-- SYNC_ARM: a write of `SYNC.CTRL`, whose ARM arms the next epoch (R461, R462). -/
def execSyncArm (src : Src) (v : Word) (s : State) : Host.Outcome State Fault Refusal :=
  .next (s.oneWrite src 0x04000010 v)

/-- SYNC_GEN: a write of `SYNC.CTRL`, whose GEN generates a pulse (R464). -/
def execSyncGen (src : Src) (v : Word) (s : State) : Host.Outcome State Fault Refusal :=
  .next (s.oneWrite src 0x04000010 v)

/-- SERVO_OFFSET: an offset sample for the servo (R473). -/
def execServoOffset (src : Src) (v : Word) (s : State) : Host.Outcome State Fault Refusal :=
  .next (s.oneWrite src 0x02000024 v)

/-- SERVO_CLEAR: a write of `NTU.SERVO_CTRL`, whose CLEAR zeroes S and d (R473). -/
def execServoClear (src : Src) (v : Word) (s : State) : Host.Outcome State Fault Refusal :=
  .next (s.oneWrite src 0x0200002C v)

/-- RESUME: a write of `NTU.SERVO_CTRL`, whose RESUME ends holdover (R475). -/
def execResume (src : Src) (v : Word) (s : State) : Host.Outcome State Fault Refusal :=
  .next (s.oneWrite src 0x0200002C v)

/-- NTU_STEP: a write of `NTU.STEP` steps the clock in the next frame (R471). -/
def execNtuStep (src : Src) (v : Word) (s : State) : Host.Outcome State Fault Refusal :=
  .next (s.oneWrite src 0x02000018 v)

/-- LAUNCH_ARM: a write of a launch entry's CTRL, whose GO arms it (R478). -/
def execLaunchArm (src : Src) (i : Fin 64) (v : Word) (s : State) : Host.Outcome State Fault Refusal :=
  .next (s.oneWrite src (aLaunch i.val 4) v)

/-- NV_STORE: a write of `BIAS.NV_CTRL`, whose STORE queues both records (R496). -/
def execNvStore (src : Src) (b : Fin 64) (v : Word) (s : State) : Host.Outcome State Fault Refusal :=
  .next (s.oneWrite src (aBias b.val 0x30) v)

/-- NV_CMD: a write of `NV.CMD`, whose GO queues a page (R518). -/
def execNvCmd (src : Src) (v : Word) (s : State) : Host.Outcome State Fault Refusal :=
  .next (s.oneWrite src 0x03000C00 v)

/-- TAI_REF: a write of `BAR.TAI_REF` applies the calendar reference (R530). -/
def execTaiRef (src : Src) (v : Word) (s : State) : Host.Outcome State Fault Refusal :=
  .next (s.oneWrite src 0x03000818 v)

end Sys2Proof.Machine
end

