-- ==== Sys2Proof/Machine/Dispatch.lean ====
section
/-!
DEFINITION. One arm per row of the opcode table: the meaning each command or event has.
-/
namespace Sys2Proof.Machine

def exec (i : Instr) (s : State) : Host.Outcome State Fault Refusal :=
  match i with
  | .alwaysOnRailValid => Sys2Proof.Machine.execAlwaysOnRailValid s
  | .biasPwrupLoad bad => Sys2Proof.Machine.execBiasPwrupLoad bad s
  | .resetNLow => Sys2Proof.Machine.execResetNLow s
  | .railOutOfWindow => Sys2Proof.Machine.execRailOutOfWindow s
  | .alwaysOnRailFall => Sys2Proof.Machine.execAlwaysOnRailFall s
  | .resetNRelease spiBoot => Sys2Proof.Machine.execResetNRelease spiBoot s
  | .bootDone calOk => Sys2Proof.Machine.execBootDone calOk s
  | .bootLoad image => Sys2Proof.Machine.execBootLoad image s
  | .wdog => Sys2Proof.Machine.execWdog s
  | .refclkLoss => Sys2Proof.Machine.execRefclkLoss s
  | .reboot src => Sys2Proof.Machine.execReboot src s
  | .modeSleep src => Sys2Proof.Machine.execModeSleep src s
  | .sleepEntry => Sys2Proof.Machine.execSleepEntry s
  | .modeWake src => Sys2Proof.Machine.execModeWake src s
  | .wakeAt => Sys2Proof.Machine.execWakeAt s
  | .wakeComplete => Sys2Proof.Machine.execWakeComplete s
  | .modeSafe src => Sys2Proof.Machine.execModeSafe src s
  | .start c => Sys2Proof.Machine.execStart c s
  | .startFrame => Sys2Proof.Machine.execStartFrame s
  | .stop c => Sys2Proof.Machine.execStop c s
  | .stopFrame => Sys2Proof.Machine.execStopFrame s
  | .receiveFrame port f => Sys2Proof.Machine.execReceiveFrame port f s
  | .ack queue epoch n ackValid => Sys2Proof.Machine.execAck queue epoch n ackValid s
  | .write c => Sys2Proof.Machine.execWrite c s
  | .read c ecc => Sys2Proof.Machine.execRead c ecc s
  | .fill c => Sys2Proof.Machine.execFill c s
  | .streamBlock c => Sys2Proof.Machine.execStreamBlock c s
  | .streamBlockRoom cl => Sys2Proof.Machine.execStreamBlockRoom cl s
  | .writePortStore cl => Sys2Proof.Machine.execWritePortStore cl s
  | .commit c => Sys2Proof.Machine.execCommit c s
  | .groupCommit => Sys2Proof.Machine.execGroupCommit s
  | .fence c => Sys2Proof.Machine.execFence c s
  | .fenceComplete queue => Sys2Proof.Machine.execFenceComplete queue s
  | .pauliUpdate c => Sys2Proof.Machine.execPauliUpdate c s
  | .recorderRead c => Sys2Proof.Machine.execRecorderRead c s
  | .recorderClear c sigOk => Sys2Proof.Machine.execRecorderClear c sigOk s
  | .recover c => Sys2Proof.Machine.execRecover c s
  | .recoverEffect => Sys2Proof.Machine.execRecoverEffect s
  | .streamResend c ecc => Sys2Proof.Machine.execStreamResend c ecc s
  | .opcodeRefused c opcode queueByte => Sys2Proof.Machine.execOpcodeRefused c opcode queueByte s
  | .ackDelay queue => Sys2Proof.Machine.execAckDelay queue s
  | .cplRto queue => Sys2Proof.Machine.execCplRto queue s
  | .streamFlush event => Sys2Proof.Machine.execStreamFlush event s
  | .frameEnd port => Sys2Proof.Machine.execFrameEnd port s
  | .linkDown port => Sys2Proof.Machine.execLinkDown port s
  | .linkLossSafe port => Sys2Proof.Machine.execLinkLossSafe port s
  | .portRetrain src v => Sys2Proof.Machine.execPortRetrain src v s
  | .ipCfgValid src k v => Sys2Proof.Machine.execIpCfgValid src k v s
  | .clusterFaultClear src v => Sys2Proof.Machine.execClusterFaultClear src v s
  | .nop q => Sys2Proof.Machine.execNop q s
  | .halt q => Sys2Proof.Machine.execHalt q s
  | .notify q code => Sys2Proof.Machine.execNotify q code s
  | .jmp q gs r addr => Sys2Proof.Machine.execJmp q gs r addr s
  | .call q gs r addr => Sys2Proof.Machine.execCall q gs r addr s
  | .ret q => Sys2Proof.Machine.execRet q s
  | .loop q gs r cnt addr => Sys2Proof.Machine.execLoop q gs r cnt addr s
  | .loopE q => Sys2Proof.Machine.execLoopE q s
  | .brg q cond addr => Sys2Proof.Machine.execBrg q cond addr s
  | .brd q dbit sense rc addr => Sys2Proof.Machine.execBrd q dbit sense rc addr s
  | .brdResolution q => Sys2Proof.Machine.execBrdResolution q s
  | .li q gd imm => Sys2Proof.Machine.execLi q gd imm s
  | .lui q gd imm => Sys2Proof.Machine.execLui q gd imm s
  | .add q o => Sys2Proof.Machine.execAdd q o s
  | .sub q o => Sys2Proof.Machine.execSub q o s
  | .and q o => Sys2Proof.Machine.execAnd q o s
  | .or q o => Sys2Proof.Machine.execOr q o s
  | .xor q o => Sys2Proof.Machine.execXor q o s
  | .shl q o => Sys2Proof.Machine.execShl q o s
  | .shr q o arith => Sys2Proof.Machine.execShr q o arith s
  | .mul16 q o => Sys2Proof.Machine.execMul16 q o s
  | .cmp q o => Sys2Proof.Machine.execCmp q o s
  | .lds q gd ga imm ecc => Sys2Proof.Machine.execLds q gd ga imm ecc s
  | .sts q ga gb imm => Sys2Proof.Machine.execSts q ga gb imm s
  | .wait q gs r n => Sys2Proof.Machine.execWait q gs r n s
  | .waituntil q tx => Sys2Proof.Machine.execWaituntil q tx s
  | .syncr q => Sys2Proof.Machine.execSyncr q s
  | .tlget q tx src gs ofs => Sys2Proof.Machine.execTlget q tx src gs ofs s
  | .play q o => Sys2Proof.Machine.execPlay q o s
  | .cplay q o => Sys2Proof.Machine.execCplay q o s
  | .flux q o => Sys2Proof.Machine.execFlux q o s
  | .probe q o => Sys2Proof.Machine.execProbe q o s
  | .acquire q o => Sys2Proof.Machine.execAcquire q o s
  | .mark q tgt width => Sys2Proof.Machine.execMark q tgt width s
  | .setf q tgt fs gs => Sys2Proof.Machine.execSetf q tgt fs gs s
  | .vz q tgt fs r gs ph => Sys2Proof.Machine.execVz q tgt fs r gs ph s
  | .phrst q tgt fs all => Sys2Proof.Machine.execPhrst q tgt fs all s
  | .publish q j v r gs inv => Sys2Proof.Machine.execPublish q j v r gs inv s
  | .waitd q dbit rc => Sys2Proof.Machine.execWaitd q dbit rc s
  | .cmt q r gs gid => Sys2Proof.Machine.execCmt q r gs gid s
  | .fenceT q => Sys2Proof.Machine.execFenceT q s
  | .fenceM q => Sys2Proof.Machine.execFenceM q s
  | .fenceD q => Sys2Proof.Machine.execFenceD q s
  | .fenceH q => Sys2Proof.Machine.execFenceH q s
  | .meas q o => Sys2Proof.Machine.execMeas q o s
  | .round q o => Sys2Proof.Machine.execRound q o s
  | .trackwin q o => Sys2Proof.Machine.execTrackwin q o s
  | .ucall q o => Sys2Proof.Machine.execUcall q o s
  | .undefinedOpcode q => Sys2Proof.Machine.execUndefinedOpcode q s
  | .eventAccept cl tgt => Sys2Proof.Machine.execEventAccept cl tgt s
  | .selectDeadline cl tgt => Sys2Proof.Machine.execSelectDeadline cl tgt s
  | .eventRelease cl tgt ecc => Sys2Proof.Machine.execEventRelease cl tgt ecc s
  | .markerPulseEnd m => Sys2Proof.Machine.execMarkerPulseEnd m s
  | .latenessReport cl => Sys2Proof.Machine.execLatenessReport cl s
  | .routineStart cl ecc => Sys2Proof.Machine.execRoutineStart cl ecc s
  | .microword cl w ecc scr => Sys2Proof.Machine.execMicroword cl w ecc scr s
  | .restart cl ecc => Sys2Proof.Machine.execRestart cl ecc s
  | .hostCall src cl v => Sys2Proof.Machine.execHostCall src cl v s
  | .controlStoreInstall src w v => Sys2Proof.Machine.execControlStoreInstall src w v s
  | .programWordInstall src cl w v => Sys2Proof.Machine.execProgramWordInstall src cl w v s
  | .converterMode src cls n v => Sys2Proof.Machine.execConverterMode src cls n v s
  | .modeSettlingEnd cls n => Sys2Proof.Machine.execModeSettlingEnd cls n s
  | .channelEnable src cls n v => Sys2Proof.Machine.execChannelEnable src cls n v s
  | .rangeSettlingEnd n => Sys2Proof.Machine.execRangeSettlingEnd n s
  | .granuleFetch cl tgt ecc => Sys2Proof.Machine.execGranuleFetch cl tgt ecc s
  | .successorSelect cl tgt ecc => Sys2Proof.Machine.execSuccessorSelect cl tgt ecc s
  | .successorStart cl tgt => Sys2Proof.Machine.execSuccessorStart cl tgt s
  | .carafeStop cl => Sys2Proof.Machine.execCarafeStop cl s
  | .carafeFlush src cl v => Sys2Proof.Machine.execCarafeFlush src cl v s
  | .zone src n v => Sys2Proof.Machine.execZone src n v s
  | .zoneSettlingEnd n => Sys2Proof.Machine.execZoneSettlingEnd n s
  | .integrateDump slot ecc => Sys2Proof.Machine.execIntegrateDump slot ecc s
  | .stateCodeWrite slot => Sys2Proof.Machine.execStateCodeWrite slot s
  | .dbitChangeCoalesced g => Sys2Proof.Machine.execDbitChangeCoalesced g s
  | .handIn slot => Sys2Proof.Machine.execHandIn slot s
  | .chainResetEnd slot => Sys2Proof.Machine.execChainResetEnd slot s
  | .detectorBlock n => Sys2Proof.Machine.execDetectorBlock n s
  | .detectorRecordCoalesced n => Sys2Proof.Machine.execDetectorRecordCoalesced n s
  | .rdspNop c => Sys2Proof.Machine.execRdspNop c s
  | .rdspHalt c => Sys2Proof.Machine.execRdspHalt c s
  | .waiti c => Sys2Proof.Machine.execWaiti c s
  | .ei c => Sys2Proof.Machine.execEi c s
  | .di c => Sys2Proof.Machine.execDi c s
  | .rdspLi c o => Sys2Proof.Machine.execRdspLi c o s
  | .rdspLui c o => Sys2Proof.Machine.execRdspLui c o s
  | .rdspAdd c o => Sys2Proof.Machine.execRdspAdd c o s
  | .rdspSub c o => Sys2Proof.Machine.execRdspSub c o s
  | .rdspAnd c o => Sys2Proof.Machine.execRdspAnd c o s
  | .rdspOr c o => Sys2Proof.Machine.execRdspOr c o s
  | .rdspXor c o => Sys2Proof.Machine.execRdspXor c o s
  | .rdspShl c o => Sys2Proof.Machine.execRdspShl c o s
  | .rdspShr c o => Sys2Proof.Machine.execRdspShr c o s
  | .shrl c o => Sys2Proof.Machine.execShrl c o s
  | .rdspCmp c o => Sys2Proof.Machine.execRdspCmp c o s
  | .pack c o => Sys2Proof.Machine.execPack c o s
  | .mv c o => Sys2Proof.Machine.execMv c o s
  | .clr c o => Sys2Proof.Machine.execClr c o s
  | .mvxa c o => Sys2Proof.Machine.execMvxa c o s
  | .stax c o => Sys2Proof.Machine.execStax c o s
  | .adda c o => Sys2Proof.Machine.execAdda c o s
  | .suba c o => Sys2Proof.Machine.execSuba c o s
  | .sra c o => Sys2Proof.Machine.execSra c o s
  | .absa c o => Sys2Proof.Machine.execAbsa c o s
  | .bita c o => Sys2Proof.Machine.execBita c o s
  | .ld c o ecc => Sys2Proof.Machine.execLd c o ecc s
  | .st c o => Sys2Proof.Machine.execSt c o s
  | .lp c o => Sys2Proof.Machine.execLp c o s
  | .lmi c o => Sys2Proof.Machine.execLmi c o s
  | .lml c o => Sys2Proof.Machine.execLml c o s
  | .mvpx c o => Sys2Proof.Machine.execMvpx c o s
  | .br c o => Sys2Proof.Machine.execBr c o s
  | .rdspCall c o => Sys2Proof.Machine.execRdspCall c o s
  | .rdspRet c => Sys2Proof.Machine.execRdspRet c s
  | .reti c => Sys2Proof.Machine.execReti c s
  | .rep c o => Sys2Proof.Machine.execRep c o s
  | .rdspIn c => Sys2Proof.Machine.execRdspIn c s
  | .dst c o => Sys2Proof.Machine.execDst c o s
  | .rdd c o => Sys2Proof.Machine.execRdd c o s
  | .res c => Sys2Proof.Machine.execRes c s
  | .lio c o => Sys2Proof.Machine.execLio c o s
  | .sio c o => Sys2Proof.Machine.execSio c o s
  | .rdspParallel c o ex ey => Sys2Proof.Machine.execRdspParallel c o ex ey s
  | .rdspInterrupt c => Sys2Proof.Machine.execRdspInterrupt c s
  | .mboxIn src c v => Sys2Proof.Machine.execMboxIn src c v s
  | .roundBoundary ecc => Sys2Proof.Machine.execRoundBoundary ecc s
  | .logicCellEval idx => Sys2Proof.Machine.execLogicCellEval idx s
  | .pauliClear src v => Sys2Proof.Machine.execPauliClear src v s
  | .roundOriginWrite src v => Sys2Proof.Machine.execRoundOriginWrite src v s
  | .roundLenWrite src v => Sys2Proof.Machine.execRoundLenWrite src v s
  | .mergedRecord n => Sys2Proof.Machine.execMergedRecord n s
  | .traceOpen src t v => Sys2Proof.Machine.execTraceOpen src t v s
  | .traceClose src t v => Sys2Proof.Machine.execTraceClose src t v s
  | .gap t => Sys2Proof.Machine.execGap t s
  | .triggerEdge idx pos => Sys2Proof.Machine.execTriggerEdge idx pos s
  | .snapArm src n v => Sys2Proof.Machine.execSnapArm src n v s
  | .snapForce src n v => Sys2Proof.Machine.execSnapForce src n v s
  | .rearmEnd n => Sys2Proof.Machine.execRearmEnd n s
  | .snapshotComplete n => Sys2Proof.Machine.execSnapshotComplete n s
  | .trackerQuantum cl trk item ecc => Sys2Proof.Machine.execTrackerQuantum cl trk item ecc s
  | .trackerUpdate cl trk item => Sys2Proof.Machine.execTrackerUpdate cl trk item s
  | .flitTransmit p => Sys2Proof.Machine.execFlitTransmit p s
  | .flitReceive p flit snap => Sys2Proof.Machine.execFlitReceive p flit snap s
  | .entryDue p => Sys2Proof.Machine.execEntryDue p s
  | .portTrain p peerId peerPort skip => Sys2Proof.Machine.execPortTrain p peerId peerPort skip s
  | .blockLockLoss p => Sys2Proof.Machine.execBlockLockLoss p s
  | .cal src p v => Sys2Proof.Machine.execCal src p v s
  | .calDone p => Sys2Proof.Machine.execCalDone p s
  | .msgTx src p v => Sys2Proof.Machine.execMsgTx src p v s
  | .msgRxData src p => Sys2Proof.Machine.execMsgRxData src p s
  | .syncInPulse => Sys2Proof.Machine.execSyncInPulse s
  | .epochReload => Sys2Proof.Machine.execEpochReload s
  | .syncArm src v => Sys2Proof.Machine.execSyncArm src v s
  | .syncGen src v => Sys2Proof.Machine.execSyncGen src v s
  | .ptpReceive port f pos => Sys2Proof.Machine.execPtpReceive port f pos s
  | .holdoverTimeout => Sys2Proof.Machine.execHoldoverTimeout s
  | .servoOffset src v => Sys2Proof.Machine.execServoOffset src v s
  | .servoClear src v => Sys2Proof.Machine.execServoClear src v s
  | .resume src v => Sys2Proof.Machine.execResume src v s
  | .ntuStep src v => Sys2Proof.Machine.execNtuStep src v s
  | .launchArm src idx v => Sys2Proof.Machine.execLaunchArm src idx v s
  | .launchDue idx => Sys2Proof.Machine.execLaunchDue idx s
  | .pairLatch => Sys2Proof.Machine.execPairLatch s
  | .biasTick b => Sys2Proof.Machine.execBiasTick b s
  | .rangeHoldEnd b => Sys2Proof.Machine.execRangeHoldEnd b s
  | .nvStore src b v => Sys2Proof.Machine.execNvStore src b v s
  | .nvDieWrite pageOk => Sys2Proof.Machine.execNvDieWrite pageOk s
  | .thermalSample temps selfFail => Sys2Proof.Machine.execThermalSample temps selfFail s
  | .roundMark => Sys2Proof.Machine.execRoundMark s
  | .noSyncr => Sys2Proof.Machine.execNoSyncr s
  | .thermShutdown => Sys2Proof.Machine.execThermShutdown s
  | .tokenRefill code => Sys2Proof.Machine.execTokenRefill code s
  | .nvCmd src v => Sys2Proof.Machine.execNvCmd src v s
  | .taiRef src v => Sys2Proof.Machine.execTaiRef src v s
  | .spiWrite addr words => Sys2Proof.Machine.execSpiWrite addr words s
  | .spiPostedWord => Sys2Proof.Machine.execSpiPostedWord s
  | .spiRead addr count ecc => Sys2Proof.Machine.execSpiRead addr count ecc s
  | .spiStatus => Sys2Proof.Machine.execSpiStatus s
  | .registerWrite src addr v => Sys2Proof.Machine.execRegisterWrite src addr v s
  | .linkUp port => Sys2Proof.Machine.execLinkUp port s
  | .railValid => Sys2Proof.Machine.execRailValid s
  | .refclkReturn => Sys2Proof.Machine.execRefclkReturn s
  | .operatingHoursUpdate => Sys2Proof.Machine.execOperatingHoursUpdate s
  | .tentativeEntryDeadline cl tgt => Sys2Proof.Machine.execTentativeEntryDeadline cl tgt s
  | .spiCsNRaise => Sys2Proof.Machine.execSpiCsNRaise s

end Sys2Proof.Machine
end

