-- ==== Sys2Proof/Machine/RdspDecode.lean ====
section
/-!
DEFINITION. The RDSP instruction that a program word spells (R327 to R329).
-/
namespace Sys2Proof.Machine

/-- Layout R (R328). -/
def decodeR (w : Nat) : RdspR :=
  ⟨fieldFin 16 w 24 21, fieldFin 16 w 20 17, bitOf w 16, fieldFin 16 w 15 12, fieldBv w 15 0⟩

/-- Layout A (R328). -/
def decodeA (w : Nat) : RdspA :=
  ⟨fieldFin 4 w 24 23, fieldFin 4 w 22 21, fieldFin 16 w 20 17, fieldFin 32 w 16 12, fieldFin 4 w 11 10,
    fieldFin 32 w 4 0⟩

/-- Layout M (R328). -/
def decodeM (w : Nat) : RdspM :=
  ⟨fieldFin 16 w 24 21, bitOf w 20, fieldFin 8 w 19 17, fieldFin 4 w 16 15, fieldFin 16 w 14 11,
    fieldBv w 13 0⟩

/-- Layout P (R328). -/
def decodeP (w : Nat) : RdspP := ⟨fieldFin 8 w 24 22, fieldBv w 15 0⟩

/-- Layout B (R328). -/
def decodeB (w : Nat) : RdspB := ⟨fieldFin 16 w 24 21, bitOf w 20, fieldFin 16 w 17 14, fieldBv w 13 0⟩

/-- Layout REP (R328). -/
def decodeRep (w : Nat) : RdspRep := ⟨bitOf w 24, fieldBv w 23 13, fieldFin 16 w 23 20, fieldBv w 12 0⟩

/-- Layout D (R328). -/
def decodeD (w : Nat) : RdspD := ⟨fieldFin 16 w 24 21, fieldFin 4 w 20 19, fieldFin 8192 w 12 0⟩

/-- Layout IO (R328). -/
def decodeIo (w : Nat) : RdspIo := ⟨fieldFin 16 w 24 21, fieldBv w 7 0⟩

/-- The parallel format (R327). -/
def decodePar (w : Nat) : RdspPar :=
  { mop := fieldFin 8 w 30 28, ad := fieldFin 4 w 27 26, xs := fieldFin 8 w 25 23, xt := fieldFin 8 w 22 20,
    lx := bitOf w 19, dx := fieldFin 8 w 18 16, px := fieldFin 4 w 15 14, ly := bitOf w 13,
    dy := fieldFin 8 w 12 10, py := fieldFin 4 w 9 8 }

/-- The instruction of core `c` that word `w` spells; none for an illegal opcode (R336). -/
def decodeRdsp (c : Fin 16) (w : Nat) : Option Instr :=
  if bitOf w 31 then some (.rdspParallel c (decodePar w) .clean .clean)
  else match bitsOf w 30 25 with
    | 0x00 => some (.rdspNop c)
    | 0x01 => some (.rdspHalt c)
    | 0x02 => some (.waiti c)
    | 0x03 => some (.ei c)
    | 0x04 => some (.di c)
    | 0x08 => some (.rdspLi c (decodeR w))
    | 0x09 => some (.rdspLui c (decodeR w))
    | 0x0A => some (.rdspAdd c (decodeR w))
    | 0x0B => some (.rdspSub c (decodeR w))
    | 0x0C => some (.rdspAnd c (decodeR w))
    | 0x0D => some (.rdspOr c (decodeR w))
    | 0x0E => some (.rdspXor c (decodeR w))
    | 0x0F => some (.rdspShl c (decodeR w))
    | 0x10 => some (.rdspShr c (decodeR w))
    | 0x11 => some (.shrl c (decodeR w))
    | 0x12 => some (.rdspCmp c (decodeR w))
    | 0x13 => some (.pack c (decodeR w))
    | 0x14 => some (.mv c (decodeR w))
    | 0x18 => some (.clr c (decodeA w))
    | 0x19 => some (.mvxa c (decodeA w))
    | 0x1A => some (.stax c (decodeA w))
    | 0x1B => some (.adda c (decodeA w))
    | 0x1C => some (.suba c (decodeA w))
    | 0x1D => some (.sra c (decodeA w))
    | 0x1E => some (.absa c (decodeA w))
    | 0x1F => some (.bita c (decodeA w))
    | 0x20 => some (.ld c (decodeM w) .clean)
    | 0x21 => some (.st c (decodeM w))
    | 0x22 => some (.lp c (decodeP w))
    | 0x23 => some (.lmi c (decodeP w))
    | 0x24 => some (.lml c (decodeP w))
    | 0x25 => some (.mvpx c (decodeP w))
    | 0x28 => some (.br c (decodeB w))
    | 0x29 => some (.rdspCall c (decodeB w))
    | 0x2A => some (.rdspRet c)
    | 0x2B => some (.reti c)
    | 0x2C => some (.rep c (decodeRep w))
    | 0x30 => some (.rdspIn c)
    | 0x31 => some (.dst c (decodeD w))
    | 0x32 => some (.rdd c (decodeD w))
    | 0x33 => some (.res c)
    | 0x34 => some (.lio c (decodeIo w))
    | 0x35 => some (.sio c (decodeIo w))
    | _ => none

/-! ## The word an instruction is written as (R327, R328) -/

/-- Layout R: xt and IMM share bits, and a word holds what both say when IMM[15:12] is xt. -/
def encodeR (o : RdspR) : Nat :=
  place 21 o.xd.val + place 17 o.xs.val + place 16 (b2n o.i) + o.imm.toNat

/-- Layout A. -/
def encodeA (o : RdspA) : Nat :=
  place 23 o.ad.val + place 21 o.src.val + place 17 o.x.val + place 12 o.sh.val + place 10 o.w.val + o.b.val

/-- Layout M: IX[2:0] and ADDR[13:11] share bits. -/
def encodeM (o : RdspM) : Nat :=
  place 21 o.x.val + place 20 (b2n o.y) + place 17 o.pn.val + place 15 o.am.val
    + place 14 (o.ix.val / 8) + o.addr.toNat

/-- Layout P. -/
def encodeP (o : RdspP) : Nat := place 22 o.n.val + o.imm.toNat

/-- Layout B. -/
def encodeB (o : RdspB) : Nat :=
  place 21 o.cond.val + place 20 (b2n o.r) + place 14 o.xs.val + o.target.toNat

/-- Layout REP: CNT[10:7] and xs share bits. -/
def encodeRep (o : RdspRep) : Nat := place 24 (b2n o.r) + place 13 o.cnt.toNat + o.len.toNat

/-- Layout D. -/
def encodeD (o : RdspD) : Nat := place 21 o.x.val + place 19 o.w.val + o.dbit.val

/-- Layout IO. -/
def encodeIo (o : RdspIo) : Nat := place 21 o.x.val + o.port.toNat

/-- The parallel format (R327). -/
def encodePar (o : RdspPar) : Nat :=
  place 31 1 + place 28 o.mop.val + place 26 o.ad.val + place 23 o.xs.val + place 20 o.xt.val
    + place 19 (b2n o.lx) + place 16 o.dx.val + place 14 o.px.val + place 13 (b2n o.ly)
    + place 10 o.dy.val + place 8 o.py.val

/-- The word of an RDSP instruction, reserved bits 0 (R327 to R329); none for every other row, and for operands
that disagree about the bits they share. -/
def encodeRdsp (i : Instr) : Option Nat :=
  let layR (op : Nat) (o : RdspR) : Option Nat :=
    if o.imm.toNat / 4096 = o.xt.val then some (place 25 op + encodeR o) else none
  let layM (op : Nat) (o : RdspM) : Option Nat :=
    if o.addr.toNat / 2048 = o.ix.val % 8 then some (place 25 op + encodeM o) else none
  match i with
  | .rdspNop _ => some 0
  | .rdspHalt _ => some (place 25 0x01)
  | .waiti _ => some (place 25 0x02)
  | .ei _ => some (place 25 0x03)
  | .di _ => some (place 25 0x04)
  | .rdspLi _ o => layR 0x08 o
  | .rdspLui _ o => layR 0x09 o
  | .rdspAdd _ o => layR 0x0A o
  | .rdspSub _ o => layR 0x0B o
  | .rdspAnd _ o => layR 0x0C o
  | .rdspOr _ o => layR 0x0D o
  | .rdspXor _ o => layR 0x0E o
  | .rdspShl _ o => layR 0x0F o
  | .rdspShr _ o => layR 0x10 o
  | .shrl _ o => layR 0x11 o
  | .rdspCmp _ o => layR 0x12 o
  | .pack _ o => layR 0x13 o
  | .mv _ o => layR 0x14 o
  | .clr _ o => some (place 25 0x18 + encodeA o)
  | .mvxa _ o => some (place 25 0x19 + encodeA o)
  | .stax _ o => some (place 25 0x1A + encodeA o)
  | .adda _ o => some (place 25 0x1B + encodeA o)
  | .suba _ o => some (place 25 0x1C + encodeA o)
  | .sra _ o => some (place 25 0x1D + encodeA o)
  | .absa _ o => some (place 25 0x1E + encodeA o)
  | .bita _ o => some (place 25 0x1F + encodeA o)
  | .ld _ o _ => layM 0x20 o
  | .st _ o => layM 0x21 o
  | .lp _ o => some (place 25 0x22 + encodeP o)
  | .lmi _ o => some (place 25 0x23 + encodeP o)
  | .lml _ o => some (place 25 0x24 + encodeP o)
  | .mvpx _ o => some (place 25 0x25 + encodeP o)
  | .br _ o => some (place 25 0x28 + encodeB o)
  | .rdspCall _ o => some (place 25 0x29 + encodeB o)
  | .rdspRet _ => some (place 25 0x2A)
  | .reti _ => some (place 25 0x2B)
  | .rep _ o => if o.cnt.toNat / 128 = o.xs.val then some (place 25 0x2C + encodeRep o) else none
  | .rdspIn _ => some (place 25 0x30)
  | .dst _ o => some (place 25 0x31 + encodeD o)
  | .rdd _ o => some (place 25 0x32 + encodeD o)
  | .res _ => some (place 25 0x33)
  | .lio _ o => some (place 25 0x34 + encodeIo o)
  | .sio _ o => some (place 25 0x35 + encodeIo o)
  | .rdspParallel _ o _ _ => some (encodePar o)
  | _ => none

end Sys2Proof.Machine
end

