-- ==== Sys2Proof/Machine/Schedule.lean ====
section
/-!
DEFINITION. What happens in a frame by itself (log entry 1): on an empty queue the block works through the parts of
the frame one by one. Each part runs the rows that may be due; every row judges by itself whether its frame has come.
The last part ends the frame.
-/
namespace Sys2Proof.Machine

/-- A row for each index of a list. -/
def rows (l : List Nat) (f : Nat → Instr) : List Instr := l.map f

/-- The numbers below `n`. -/
def below (n : Nat) : List Nat := List.range n

def fin4 (n : Nat) : Fin 4 := Fin.ofNat 4 n
def fin8 (n : Nat) : Fin 8 := Fin.ofNat 8 n
def fin16 (n : Nat) : Fin 16 := Fin.ofNat 16 n
def fin32 (n : Nat) : Fin 32 := Fin.ofNat 32 n
def fin64 (n : Nat) : Fin 64 := Fin.ofNat 64 n
def fin1024 (n : Nat) : Fin 1024 := Fin.ofNat 1024 n

/-! ## Start of the frame -/

/-- Settling times and pulses that may end, and reports of the frame (R162, R229, R248, R285, R297, R392). -/
def State.dueEnds (s : State) : List Instr :=
  [.streamFlush false, .streamFlush true]
  ++ rows rateCodes (fun k => .tokenRefill (BitVec.ofNat 8 k))
  ++ (if s.frame % 65536 = 0 then rows (below 16) (fun c => .latenessReport (fin16 c)) else [])
  ++ s.stages.flatMap (fun (p : Nat × Stage) =>
    let n := Fin.ofNat 512 (p.1 % 1024)
    match p.1 / 1024 with
    | 0 => [.modeSettlingEnd .drv n]
    | 1 => [.modeSettlingEnd .prb n]
    | 2 => [.rangeSettlingEnd n]
    | _ => [])
  ++ rows (skeys s.inputs) (fun n => .zoneSettlingEnd (fin32 n))
  ++ rows (skeys s.slots) (fun i => .chainResetEnd (fin1024 i))
  ++ rows (skeys s.markers) (fun m => .markerPulseEnd (fin64 m))
  ++ rows (skeys s.cap.snap) (fun n => .rearmEnd (fin32 n))

/-- Mode changes that may be due, by precedence: entries to SAFE, RECOVER, wakes, and host requests in the order in
which they can have been accepted (R44, R60 to R62, R75, R98, R114, R280, R509). -/
def State.dueModes (s : State) : List Instr :=
  .thermShutdown :: (below 4).map (fun k => .linkLossSafe (fin4 k))
  ++ [.recoverEffect, .wakeComplete, .startFrame, .stopFrame, .sleepEntry]
  ++ (s.clusters.filter (fun (p : Nat × Cluster) => p.2.stopAt.isSome)).map
    (fun (p : Nat × Cluster) => .carafeStop (fin16 p.1))

/-! ## Host and SPI -/

/-- The row of a command taken in (R95, R100). -/
def State.rowOf (s : State) (t : Taken) : Instr :=
  if 64 ≤ t.queueByte.toNat then .opcodeRefused t.cmd t.op t.queueByte
  else match t.op.toNat with
    | 1 => .write t.cmd
    | 2 => .read t.cmd (s.ecc 0 t.order)
    | 3 => .fill t.cmd
    | 4 => .streamBlock t.cmd
    | 5 => .commit t.cmd
    | 6 => .fence t.cmd
    | 7 => .start t.cmd
    | 8 => .stop t.cmd
    | 9 => match t.cmd.arg.toNat with
      | 2 => .modeWake (.modeCmd t.cmd)
      | 3 => .modeSafe (.modeCmd t.cmd)
      | _ => .modeSleep (.modeCmd t.cmd)
    | 0xA => .pauliUpdate t.cmd
    | 0xB => .recorderRead t.cmd
    | 0xC => .recorderClear t.cmd (Config.tokenSigned t.cmd.payload)
    | 0xD => .recover t.cmd
    | 0xE => .streamResend t.cmd (s.ecc 10 t.order)
    | _ => .opcodeRefused t.cmd t.op t.queueByte

/-- Queues whose FENCE may be complete, in the order of take-in: a FENCE that covers another completes after it (R107,
R113). -/
def State.dueFences (s : State) : List Instr :=
  let open_ := s.host.queues.flatMap (fun (q : Nat × HostQ) => q.2.active.filter (fun t => t.op = 6))
  (sortBy Taken.order open_).map (fun t => .fenceComplete t.cmd.queue)

/-- Host commands under way (R97, R113, R261, R531). -/
def State.dueHost (s : State) : List Instr :=
  s.clusters.flatMap (fun (p : Nat × Cluster) => p.2.reads.map (fun j => Instr.read j.cmd.cmd (s.ecc 1 j.addr)))
  ++ s.host.records.map (fun j => Instr.recorderRead j.cmd.cmd)
  ++ s.dueFences
  ++ rows (below 16) (fun c => .streamBlockRoom (fin16 c))

/-! ## Gollet, Percolator -/

/-- State codes and mirrored entries that may be due (R304, R457). -/
def State.dueCodes (s : State) : List Instr :=
  s.slots.flatMap (fun (p : Nat × Slot) => p.2.codes.map (fun _ => Instr.stateCodeWrite (fin1024 p.1)))
  ++ rows (skeys s.gols) (fun p => .entryDue (fin8 p))

/-- Logic cells that are enabled or whose D-bit is still valid, by level (R351). -/
def State.dueCells (s : State) : List Instr :=
  let on := (below 1024).filter (fun i => bitOf (s.cellCfg i) 31 || (s.dbit (5120 + i)).valid)
  rows (sortBy (fun i => 1024 * bitsOf (s.cellCfg i) 6 4 + i) on) (fun i => .logicCellEval (fin1024 i))

/-! ## Queues and segments -/

/-- A row for a target. -/
def atKey (k : Nat) (f : Fin 16 → Fin 228 → Instr) : Instr := f (fin16 (k / 256)) (Fin.ofNat 228 (k % 256))

/-- The rows of the event queues (R157, R163, R408). -/
def State.dueQueues (s : State) : List Instr :=
  s.tqueues.flatMap (fun (p : Nat × TQueue) =>
    p.2.flight.map (fun _ => atKey p.1 .eventAccept)
    ++ [atKey p.1 .tentativeEntryDeadline]
    ++ (p.2.flight ++ p.2.held).map (fun _ => atKey p.1 .selectDeadline))

/-- Segments end and events are released, in ascending target number; an event of the successor's play frame comes
before the successor (R158, R270, R273, R277). -/
def State.dueReleases (s : State) : List Instr :=
  rows (skeys s.plays) (fun k => atKey k (fun c t => .successorSelect c t (s.ecc 2 k)))
  ++ (sortBy id (skeys s.plays ++ skeys s.tqueues).eraseDups).flatMap (fun k =>
    (s.tq k).held.map (fun e => atKey k (fun c t => .eventRelease c t (s.ecc 2 (k + 4096 * e.id))))
    ++ [atKey k .successorStart])

/-- Granules, and the write ports (R262, R263). -/
def State.dueFetches (s : State) : List Instr :=
  rows (skeys s.plays) (fun k => atKey k (fun c t => .granuleFetch c t (s.ecc 1 k)))
  ++ rows (skeys s.clusters) (fun c => .writePortStore (fin16 c))

/-! ## Acquisition -/

/-- The rows of acquisition (R302, R307, R320, R383). -/
def State.dueAcq (s : State) : List Instr :=
  s.slots.flatMap (fun (p : Nat × Slot) =>
    p.2.wins.map (fun _ => Instr.integrateDump (fin1024 p.1) (s.ecc 6 p.1))
    ++ p.2.hands.map (fun _ => Instr.handIn (fin1024 p.1)))
  ++ rows ((below 32).filter s.blockEnds) (fun n => .detectorBlock (fin32 n))
  ++ rows (skeys s.inputs) (fun n => .detectorRecordCoalesced (fin32 n))

/-! ## Processors -/

/-- An instruction whose loads meet `e` (R172, R319). -/
def meeting (e : Ecc) (i : Instr) : Instr :=
  match i with
  | .lds q gd ga imm _ => .lds q gd ga imm e
  | .ld c o _ => .ld c o e
  | .rdspParallel c o _ _ => .rdspParallel c o e e
  | i => i

/-- The first of `l` whose fetch from program memory meets an uncorrectable error: memory `m`, word `pc` (R127). -/
def State.badFetch (s : State) (m : Nat) (pc : Nat → Nat) (l : List Nat) : Option Nat :=
  firstSome l (fun k => if s.ecc m (pc k) = .uncorrectable then some k else none)

/-- The address of the word that RDSP core `c` issues (R319). -/
def State.rdspPc (s : State) (c : Nat) : Nat := aRd c (0x40000 + 4 * (s.rd c).pc.toNat)

/-- The word that RDSP core `c` issues, if it decodes (R336). -/
def State.rdspWord (s : State) (c : Nat) : Option Instr :=
  (decodeRdsp (fin16 c) (s.memWord (s.rdspPc c))).map (meeting (s.ecc 5 (s.rdspPc c)))

/-- The words that the RDSP cores issue: an uncorrectable error in one is a fault of its cluster (R127, R319), and an
illegal opcode halts its core (R336). -/
def State.rdspPart (s : State) : State × List Instr :=
  let ready := (below 16).filter s.rdReady
  match s.badFetch 3 s.rdspPc ready with
  | some c => (s.eccFault (some c) 3 (s.rdspPc c), [])
  | none =>
    (forEach (ready.filter (fun c => (s.rdspWord c).isNone)) (fun c s => s.rdIllegal c 1) s,
      ready.filterMap s.rdspWord)

/-- The next word of the routine of cluster `c`, as the control store holds it (R399). -/
def State.meWord (s : State) (c : Nat) : BitVec 192 :=
  match (s.me c).run with
  | some r =>
    let a := r.pc.toNat
    if 12288 ≤ a then BitVec.ofNat 192 (leNat (s.bytesAt (0x90000000 + 32 * a) 24))
    else (sget none s.boot.words a).getD (Config.vendorWord a)
  | none => 0

/-- The rows of the microengines (R398, R415, R418). -/
def State.dueMicro (s : State) : List Instr :=
  rows (skeys s.mes) (fun c => .restart (fin16 c) (s.ecc 11 c))
  ++ rows (skeys s.mes) (fun c => .routineStart (fin16 c) (s.ecc 7 c))

/-- The microwords of the frame. -/
def State.dueWords (s : State) : List Instr :=
  rows (skeys s.mes) (fun c => .microword (fin16 c) (s.meWord c) (s.ecc 7 c) (s.ecc 4 c))

/-- The address of the word that sequencer `q` issues (R171). -/
def State.seqPc (s : State) (q : Nat) : Nat := aCl (q / 8) (0x80000 + 8 * (s.seq q).pc.toNat)

/-- The Tarfiger words of the frame, from every sequencer that may issue (R171, R178), and the waits (R166); an
uncorrectable error in a word is a fault of its cluster (R172). -/
def State.seqPart (s : State) : State × List Instr :=
  match s.badFetch 3 s.seqPc ((below 128).filter s.seqReady) with
  | some q => (s.eccFault (some (q / 8)) 3 (s.seqPc q), [])
  | none => (s, (below 128).flatMap (fun q =>
    if s.seqReady q then
      [meeting (s.ecc 4 q) (decodeSeq (Fin.ofNat 128 q) (leNat (s.bytesAt (s.seqPc q) 8)))]
    else if (s.seq q).state = 4 then [.brdResolution (Fin.ofNat 128 q)]
    else []))

/-- The items of the trackers `ks` that may have work, by cluster, in the order of R436. -/
def State.dueItems (s : State) (ks : List Nat) (f : Fin 16 → Fin 4 → Fin 64 → Instr) : List Instr :=
  ((below 16).filter (fun c => s.regN (aCl c 0x2000) ≠ 0 || !(s.trk c).shots.isEmpty)).flatMap (fun c =>
    ks.flatMap (fun k => (below 64).flatMap (fun i =>
      if s.itemRuns c k i || (s.trk c).shots.any (fun x => x.trk == k && x.item == i) then
        [f (fin16 c) (fin4 k) (fin64 i)]
      else [])))

/-- The quanta that shots ask for (R435, R436). -/
def State.dueQuanta (s : State) : List Instr :=
  s.dueItems [0, 2] (fun c k i => .trackerQuantum c k i (s.ecc 2 (2 ^ 20 + 256 * c.val + 64 * k.val + i.val)))

/-- The batches that may be complete (R438 to R440). -/
def State.dueUpdates (s : State) : List Instr := s.dueItems (below 4) .trackerUpdate

/-! ## The rest of the frame -/

/-- The rows of the Gollet ports and the network time unit (R448, R459, R474, R478, R480). -/
def State.dueNet (s : State) : List Instr :=
  (below 8).flatMap (fun p => [.flitTransmit (fin8 p), .calDone (fin8 p)])
  ++ [.pairLatch, .holdoverTimeout]
  ++ rows (skeys s.ntu.launch) (fun i => .launchDue (fin64 i))

/-- The rows of thermal management (R502 to R508). In RESET no frame passes, and no sample is due. -/
def State.dueTherm (s : State) : List Instr :=
  (match s.mode with
    | .reset => []
    | _ => if s.frame % 125000 = 0 then
        [.thermalSample ((below 48).map (fun k => Config.temperature k (s.moment s.ticks))) 0] else [])
  ++ [.roundMark, .noSyncr]

/-- The rows of the bias outputs and of the capture engine (R378, R381, R392, R484, R490). -/
def State.dueBias (s : State) : List Instr :=
  rows ((below 64).filter s.biasTicks) (fun b => .biasTick (fin64 b))
  ++ rows (skeys s.biases) (fun b => .rangeHoldEnd (fin64 b))
  ++ rows (skeys s.cap.merge) (fun n => .mergedRecord (fin32 n))
  ++ rows (below 8) (fun g => .dbitChangeCoalesced (fin8 g))
  ++ s.cap.snap.flatMap (fun (p : Nat × Snap) =>
    let x := p.2
    if s.fld (aSnap p.1 0xC) 1 0 = 3 ∧ x.doneAt ≤ s.ticks then [.snapshotComplete (fin32 p.1)] else [])

/-- The rows of the NV die and the operating hours: the die ends a write in a frame that the spec leaves open within its
bounds (R520), and an hour has 3.6 × 10^12 frames (R529). -/
def State.dueNv (s : State) : List Instr :=
  (if s.writeEnds then [.nvDieWrite (Config.pageGood (s.moment s.ticks))] else [])
  ++ (if hourFrames ≤ s.bar.railFrames then [.operatingHoursUpdate] else [])

/-- The rows of the host link at the end of a frame (R88, R89, R102, R103). -/
def State.dueLink (s : State) : List Instr :=
  rows (skeys s.cap.trace) (fun t => .gap (fin64 t))
  ++ [.streamFlush false, .streamFlush true]
  ++ rows (skeys s.host.queues) (fun q => .ackDelay (fin64 q))
  ++ rows (skeys s.host.queues) (fun q => .cplRto (fin64 q))
  ++ s.dueFences
  ++ (below 4).map (fun k => .frameEnd (fin4 k))

/-- Where a FENCE.H was executed in this frame, every stream sends what it holds, and frames formed from the next
frame on wait for these (R118). -/
def State.fenceStreams (s : State) : State :=
  if s.host.fenceH then
    let s1 := forEach (skeys s.cap.trace) (fun t s => s.fenceTrace t) ((s.flushStream false).flushStream true)
    { s1 with host := { s1.host with fenceH := false, gen := s1.host.gen + 1 } }
  else s

/-- The TRACE streams hand their records over, unless one meets an uncorrectable error in the capture buffers, which
is a device fault (R102, R127). -/
def State.linkPart (s : State) : State × List Instr :=
  match s.badFetch 9 id (skeys s.cap.trace) with
  | some t => (s.eccFault none 9 t, [])
  | none => (forEach (skeys s.cap.trace) (fun t s => s.traceSend t) s.fenceStreams, s.dueLink)

/-! ## The end of the frame -/

/-- Scratch writes whose frame has come are seen by every sequencer (R115). -/
def State.landStores (s : State) : State :=
  forEach s.clusters (fun (p : Nat × Cluster) s =>
    let due := p.2.stores.filter (fun x => decide (x.visible ≤ s.frame))
    let s1 := forEach due (fun x s => s.setMemWord (aCl p.1 (0x40000 + 4 * x.word)) x.value.toNat) s
    if due.isEmpty then s
    else s1.modCl p.1 (fun c => { c with stores := c.stores.filter (fun x => decide (s.frame < x.visible)) })) s

/-- What no later frame can meet is forgotten: D-bit changes, codes, tracker spans, samples and windows. -/
def State.prune (s : State) : State :=
  let s1 := { s with
    dlog := s.dlog.filter (fun c => decide (s.ticks < c.tick + 2)),
    dac := forEach (skeys s.dac) (fun k d => supd [] d k (fun l => l.filter (fun p => decide (s.ticks < p.1 + 34)))) s.dac }
  forEach (skeys s.trks) (fun c s => s.modTrk c (fun t => { t with
    spans := t.spans.filter (fun x => decide (s.frame < x.2.2)),
    wins := t.wins.filter (fun w => decide (s.frame < w.last)) })) s1

/-- The outputs form their codes for the frame, and TRACE streams take or lose its samples (R213 to R219, R239 to R247,
R388, R390, R498). -/
def State.synth (s : State) : State :=
  match s.mode with
  | .reset | .boot => s
  | _ => forEach ((below 64).filter s.traceOpen) (fun t s => s.traceData t) s.synthVoices.synthFluxes

/-- Whether what a word held in past frames can matter: the words of the outputs, the acquisition inputs, the pumps and
the logic cells, but not their counters and readings. -/
def keepsPast (a : Nat) : Bool :=
  decide (0x20000000 ≤ a ∧ a < 0x40000000)
    || (isAcq a && !(decide (a % 0x10000 < 0x1000 ∧ a % 0x10000 ≠ 0x10) && decide (a < 0x48000000))
      && !(decide (0x1000 ≤ a % 0x10000 ∧ a % 0x10000 < 0x2000 ∧ 0x40 ≤ a % 0x80) && decide (a < 0x48000000)))
    || decide (0x60010000 ≤ a ∧ a < 0x60020000) || decide (0x78010000 ≤ a ∧ a < 0x78020000)

/-- The words that differ between two lists of registers, with what they held in the first; `fuel` bounds their
lengths together. -/
def changedWords (fuel : Nat) (old new : Sparse Word) : List (Nat × Word) :=
  match fuel with
  | 0 => []
  | fuel + 1 => match old, new with
    | [], [] => []
    | [], (b, _) :: u => (b, resetWord b) :: changedWords fuel [] u
    | (a, v) :: t, [] => (a, v) :: changedWords fuel t []
    | (a, v) :: t, (b, w) :: u =>
      if a = b then (if v = w then changedWords fuel t u else (a, v) :: changedWords fuel t u)
      else if a < b then (a, v) :: changedWords fuel t ((b, w) :: u)
      else (b, resetWord b) :: changedWords fuel ((a, v) :: t) u

/-- What this frame has changed joins what the datapaths remember, for 64 frames at the outputs and 2^17 at the
acquisition inputs. -/
def State.keepPast (s : State) : State :=
  let now := ((changedWords (s.was.length + s.regs.length) s.was s.regs).filter (fun x => keepsPast x.1)).map
    (fun x => (s.ticks, x.1, x.2))
  { s with
    was := s.regs,
    past := s.past.filter (fun o => decide (s.ticks < o.1 + 64)) ++ now.filter (fun o => !isAcq o.2.1),
    acqPast := s.acqPast.filter (fun o => decide (s.ticks < o.1 + 2 ^ 17)) ++ now.filter (fun o => isAcq o.2.1) }

/-- The frame ends and the next begins: the frame counter and the network time unit count (R19, R471). While the
device is in RESET no frame passes. -/
def State.nextFrame (s : State) : State :=
  match s.mode with
  | .reset => { s with was := s.regs }
  | _ =>
    let s1 := (forEach (skeys s.mes) (fun c s => s.yieldShots c) s.synth).keepPast
    let s2 := if s1.ticks % 65536 = 0 then s1.catchUpAll else s1
    { ({ s2 with frame := (s2.frame + 1) % 2 ^ 64, ticks := s2.ticks + 1 }).ntuTick.prune with
      base := none, perc := { s2.perc with last := none },
      bar := { s2.bar with railFrames := s2.bar.railFrames + 1 } }

/-- A frame has begun: what the block holds at its boundary is kept, and routines that a host call preempts are abandoned
(R413); the ROM's window for BOOT_LOAD may end (R514). -/
def State.beginFrame (s : State) : State :=
  let s1 := { s with base := some s.toBody }
  forEach (skeys s1.mes) (fun c s => s.preempt c) s1.bootWindow

/-- After the host's accesses of the frame, writes on their way to scratch and D-bits land, and an armed reload's clear of
`SYNC.CTRL.ARM` stands (R115, R461, R539). -/
def State.afterHost (s : State) : State :=
  let s1 := if s.reloaded then s.setFld 0x04000010 0 0 0 else s
  s1.landStores.landDbits

/-- The number of parts of a frame. -/
def parts : Nat := 26

/-- Part `k` of a frame: what it changes by itself, and the rows that it runs then. The host's accesses come before the
device's own updates (R539), the D-bits that a boundary's work reads before that work (R358), that work before any unit
of the frame (R38), and what takes effect in a frame before what reads it. -/
def State.part (s : State) (k : Nat) : State × List Instr :=
  match k with
  | 0 => (s, [.epochReload])
  | 1 => (s.beginFrame, [])
  | 2 => (s, s.dueEnds)
  | 3 => (s, s.dueModes)
  | 4 => (s, s.dueHost)
  | 5 => (s, match s.nextStart with
    | some t => [s.rowOf t]
    | none => [])
  | 6 => (s, [.spiPostedWord])
  | 7 => (let t := s.afterHost; (t, t.dueTherm))
  | 8 => (s, s.dueCodes)
  | 9 => (s, s.dueCells)
  | 10 => (s, [.wakeAt, .roundBoundary (s.ecc 8 0), .groupCommit])
  | 11 => (s, s.dueQueues)
  | 12 => (let t := forEach (skeys s.trks) (fun c s => s.resumeTrackers c) s; (t, t.dueQuanta))
  | 13 => (s, s.dueReleases)
  | 14 => (s, s.dueFetches)
  | 15 => (s.watchAdc, s.dueAcq)
  | 16 => (let t := s.stepLibraries; (t, ((below 16).filter t.irqDue).map (fun c => .rdspInterrupt (fin16 c))))
  | 17 => s.rdspPart
  | 18 => (s, s.dueMicro)
  | 19 => (s, s.dueWords)
  | 20 => s.seqPart
  | 21 => (s, s.dueUpdates)
  | 22 => (s, s.dueNet)
  | 23 => (let t := s.watchAll.midWrite.beginWrite; (t, t.dueNv ++ t.dueBias))
  | 24 => s.linkPart
  | _ => (s.nextFrame, [])

end Sys2Proof.Machine
end

