-- ==== Sys2Proof/Machine/Step.lean ====
section
/-!
DEFINITION. One step: the command at the front of the queue, or the next part of a frame on an empty queue.
-/
namespace Sys2Proof.Machine

/-- A row of part `k` runs, unless a fault has sent the frame back to its boundary (log entry 25). -/
def State.runRow (k : Nat) (s : State) (i : Instr) : State :=
  if s.phase ≠ k then s
  else match exec i s with
    | .next t => t
    | _ => s

/-- On an empty queue the block works through the next part of the frame (log entry 1). -/
def State.idle (s : State) : State :=
  let p := s.part s.phase
  let t := p.2.foldl (State.runRow s.phase) p.1
  if t.phase = s.phase then { t with phase := (s.phase + 1) % parts } else t

/-- Take the command at the front of the queue and run it on the rest; on an empty queue the block works through
the next part of its frame (log entry 1). -/
def step (s : State) : Host.Outcome State Fault Refusal :=
  match s.pending with
  | [] => .next s.idle
  | c :: rest => exec c { s with pending := rest }

/-- The state with the command that a word spells put at the front of its queue; unchanged where the
word spells none. The opcode table gives no row any bits, so no word spells a command. -/
def State.withFetchWord (s : State) (nbits w : Nat) : State :=
  match decodeTableWord nbits w with
  | some c => { s with pending := c :: s.pending }
  | none => s

end Sys2Proof.Machine
end

