-- ==== Sys2Proof/Machine/Wire.lean ====
section
/-!
DEFINITION. The bytes of the Abral frames that the device transmits (R73, R79, R81 to R83). A state holds such a frame
by its fields (`TxFrame`).
-/
namespace Sys2Proof.Machine

/-- The one's-complement sum of the 16-bit words of bytes, most significant byte first; an odd end is padded. -/
def sum16 (l : List Byte) : Nat :=
  let total := ((List.range ((l.length + 1) / 2)).map (fun i => 256 * leAt l (2 * i) 1 + leAt l (2 * i + 1) 1)).sum
  let fold (n : Nat) : Nat := n % 65536 + n / 65536
  fold (fold (fold total))

/-- The Abral header (R81) and payload. -/
def TxFrame.abral (f : TxFrame) : List Byte :=
  [1, f.queue, f.opcode, f.status] ++ leBytes 2 f.flags.toNat ++ leBytes 2 f.epoch.toNat ++ leBytes 4 f.seq.toNat
    ++ leBytes 4 f.ack.toNat ++ leBytes 4 f.tag.toNat ++ leBytes 2 f.payload.length ++ [0, 0]
    ++ leBytes 4 f.arg.toNat ++ leBytes 4 (payloadCrc f.payload) ++ f.payload

/-- The addresses of a packet. -/
def NetHeader.addresses (h : NetHeader) : List Byte :=
  if h.v6 then beBytes 16 h.src.toNat ++ beBytes 16 h.dst.toNat else beBytes 4 h.src.toNat ++ beBytes 4 h.dst.toNat

/-- The UDP header and data, with its checksum over the pseudo-header; a sum of zero goes as 0xFFFF (R79). -/
def NetHeader.udp (h : NetHeader) (data : List Byte) : List Byte :=
  let len := 8 + data.length
  let head := beBytes 2 h.srcPort.toNat ++ beBytes 2 h.dstPort.toNat ++ beBytes 2 len
  let sum := 65535 - sum16 (h.addresses ++ beBytes 2 17 ++ beBytes 2 len ++ head ++ [0, 0] ++ data)
  head ++ beBytes 2 (if sum = 0 then 65535 else sum) ++ data

/-- The IPv4 packet of UDP bytes: DF set, TTL and DSCP of the address set, no options; `id` is its identification,
which the spec does not state (R79). -/
def NetHeader.ipv4 (h : NetHeader) (id : BitVec 16) (data : List Byte) : List Byte :=
  let start := [0x45, BitVec.ofNat 8 (4 * h.dscp.toNat)] ++ beBytes 2 (20 + data.length) ++ beBytes 2 id.toNat
    ++ [0x40, 0, h.ttl, 17]
  start ++ beBytes 2 (65535 - sum16 (start ++ h.addresses)) ++ h.addresses ++ data

/-- The IPv6 packet of UDP bytes: hop limit and traffic class of the address set, flow label 0 (R79). -/
def NetHeader.ipv6 (h : NetHeader) (data : List Byte) : List Byte :=
  beBytes 4 (6 * 2 ^ 28 + 4 * h.dscp.toNat * 2 ^ 20) ++ beBytes 2 data.length ++ [17, h.ttl] ++ h.addresses ++ data

/-- The Ethernet header of a packet, with its VLAN tag where one is sent (R77). -/
def NetHeader.ethernet (h : NetHeader) : List Byte :=
  beBytes 6 h.dstMac.toNat ++ beBytes 6 h.srcMac.toNat
    ++ (match h.vlan with
      | some t => [0x81, 0x00] ++ beBytes 2 t.toNat
      | none => [])
    ++ beBytes 2 (if h.v6 then 0x86DD else 0x0800)

/-- One bit of the reflected CRC-32 of IEEE 802.3. -/
def crc32Bit (c : Nat) : Nat := if c % 2 = 1 then Nat.xor (c / 2) 0xEDB88320 else c / 2

/-- The FCS of a frame: the CRC-32 of IEEE 802.3, whose bytes follow the frame, the least significant first (R73, R480). -/
def fcs (l : List Byte) : List Byte :=
  leBytes 4 (Nat.xor 0xFFFFFFFF (l.foldl (fun c b => repeatN 8 crc32Bit (Nat.xor c b.toNat)) 0xFFFFFFFF))

/-- The bytes of a transmitted frame, padded to the least that Ethernet carries, with its FCS (R73, R480); a launch frame
holds its own before that (R478). -/
def TxFrame.bytes (f : TxFrame) : List Byte :=
  let l := match f.net with
    | none => f.payload
    | some h =>
      let u := h.udp f.abral
      h.ethernet ++ (if h.v6 then h.ipv6 u else h.ipv4 (Config.ipId f.opcode.toNat f.seq.toNat) u)
  let p := l ++ List.replicate (60 - l.length) 0
  p ++ fcs p

end Sys2Proof.Machine
end

