-- ==== Sys2Proof/Machine/Pins.lean ====
section
/-!
DEFINITION. What the output pins show in a state (R46 to R56, R461 to R464, R504): the status pins, SYNC_OUT, the
bias outputs, and within the frame, in steps of 62.5 ps, the markers (R234) and the DAC codes of the drive, probe, flux
and pump outputs (R21, R231, R249, R498). Which outputs are muted is in Machine/RegRead.lean.
-/
namespace Sys2Proof.Machine

/-- What a pin of the device does to its line. -/
inductive PinLevel where
  | undriven
  | released
  | low
  | high
  deriving DecidableEq, Repr

/-- PWRGOOD: high while every rail is valid, undriven without the always-on rail (R48). -/
def State.pwrgood (s : State) : PinLevel :=
  if !s.power.aon then .undriven else if s.power.rails then .high else .low

/-- FAULT_N: low in SAFE, else released (R54). -/
def State.faultN (s : State) : PinLevel :=
  if !s.power.aon then .undriven
  else match s.mode with
    | .safe => .low
    | _ => .released

/-- ALERT_N: low while the thermal level is WARN or higher, else released (R504). -/
def State.alertN (s : State) : PinLevel :=
  if !s.power.aon then .undriven else if 1 ≤ s.fld 0x03000000 1 0 then .low else .released

/-- SYNC_OUT: idle in RESET and BOOT, and low in OUT_MODE 0; else high for one REFCLK period where a pulse is under way (R54,
R464). -/
def State.syncOut (s : State) : PinLevel :=
  if !s.power.aon then .undriven
  else match s.mode with
    | .reset | .boot => .low
    | _ =>
      if s.fld 0x04000010 9 8 ≠ 0 ∧ s.sync.outs.any (fun f => decide (f ≤ s.frame ∧ s.frame < f + 4)) then .high
      else .low

/-- What Gollet port `p` sends in training: its DEV_ID and its port number; nothing outside training (R452). -/
def State.golTraining (s : State) (p : Fin 8) : Option (BitVec 16 × Fin 8) :=
  if s.golState p.val = 1 ∧ s.lanesOn then some (BitVec.ofNat 16 (s.fld 0x04000000 15 0), p) else none

/-- What bias output `b` drives in this frame: a code in a range; none while it is high-impedance (R51, R54, R56,
R485, R489). -/
def State.biasDrives (s : State) (b : Nat) : Option (BitVec 20 × BitVec 2) :=
  let v := (s.bias b).shown s.ticks
  if s.power.aon && (s.bias b).driven then some (recCode v, recRange v) else none

/-! ## Levels and codes within the frame -/

/-- The 16 levels of marker `m` in this frame: both edges come SKEW steps late (R234). Unpowered it is undriven, and it
is driven low once the I/O rail is valid (R54): which rail lies outside its window where one does is free (log entry 59). -/
def State.markerSteps (s : State) (m : Nat) : List PinLevel :=
  let skew := bitsOf (s.wordAgo (aMrk m 4) 32).toNat 3 0
  (List.range 16).map (fun (i : Nat) =>
    if !s.power.aon || !(s.power.rails || Config.ioRail (s.moment s.ticks)) then .undriven
    else if s.markerGate m && (s.marker m).pulse (if i < skew then s.ticks - 1 else s.ticks) then .high else .low)

/-- The codes of an output that are at the ball, before its skew, in the frame `k` frames ago; none where the datapath
holds zeros. A flux output without a chain is at its idle level, and a pump's tone is a function of time (R244, R497). -/
def State.codesFor (s : State) (cls : OutClass) (n k : Nat) : List Int :=
  let key := stageKey cls n
  let held := firstSome (sget [] s.dac key) (fun p => if p.1 + codeDelay key + k = s.ticks then some p.2 else none)
  match cls, held with
  | .pump, _ => s.pumpCodes n (32 + k)
  | .flx, none => List.replicate 2 (satInt 16 (rneInt (s.idleFlux n (32 + k)) 56))
  | _, l => l.getD []

/-- Step `j` of a stream of codes, `per` steps to a code; a negative step lies in the frame before. -/
def stepCode (before now : List Int) (per : Nat) (j : Int) : Int :=
  if 0 ≤ j then now.getD (j.toNat / per) 0 else before.getD ((16 + j).toNat / per) 0

/-- The 16 steps of a drive or probe output: SKEW samples late. A change acts at the first sample of the frame: samples
before it come as late as they were, an increase repeats the last of them, and a decrease omits samples (R231). -/
def skewSamples (before now : List Int) (old skew : Nat) : List Int :=
  (List.range 16).map (fun (i : Nat) =>
    if skew ≤ i then stepCode before now 1 ((i : Int) - skew)
    else stepCode before now 1 (min (-1) ((i : Int) - old)))

/-- The 16 steps of a flux output: its two codes, SKEW steps late (R249). -/
def skewInstant (before now : List Int) (skew : Nat) : List Int :=
  (List.range 16).map (fun (i : Nat) => stepCode before now 8 ((i : Int) - skew))

/-- The codes that an output presents at its ball in the 16 steps of this frame; none while it is muted (R41, R54). -/
def State.ballCodes (s : State) (cls : OutClass) (n : Nat) : Option (List Int) :=
  let before := s.codesFor cls n 1
  let now := s.codesFor cls n 0
  let skew (a k : Nat) : Nat := bitsOf (s.wordAgo a (32 + k)).toNat 3 0
  if s.muted cls n then none
  else match cls with
    | .drv => some (skewSamples before now (skew (aDrv n 8) 1) (skew (aDrv n 8) 0))
    | .prb => some (skewSamples before now (skew (aPrb n 8) 1) (skew (aPrb n 8) 0))
    | .flx => some (skewInstant before now (bitsOf (s.wordAgo (aFlx n 4) 32).toNat 2 0))
    | .pump => some ((List.range 16).map (fun (i : Nat) => stepCode before now 1 (i : Int)))

/-- The range of flux output `n` at its ball: that before a change until the mute of the change is over (R242, R248). -/
def State.ballRange (s : State) (n : Nat) : Bool :=
  let x := s.stage .flx n
  if s.ticks < x.settleUntil then x.range else bitOf (s.regN (aFlx n 4)) 8

end Sys2Proof.Machine
end

