-- ==== Sys2Proof/Safety.lean ====
section
/-!
DEFINITION. What counts as a sound state and a safe run, and the terms the statements use: which units a command
changes, when a sequencer or a core issues, and where a command stands on the host's command unit.
-/
namespace Sys2Proof.Machine

/-! ## Sound states and runs -/

/-- The byte memory is in canonical form, and so is the one that the frame in progress began with, which a fault of this
frame puts back (R131). -/
def State.sound (s : State) : Prop := Memory.wf s.mem = true ∧ ∀ b, s.base = some b → Memory.wf b.mem = true

/-- A run is safe while no step of it stops: the block has no stop of its own (R127: its faults are states). -/
def State.runsOn (s : State) : Prop := ∀ k : Nat, ∃ t, Host.Core.run ⟨State, Fault, Refusal, step, .reset⟩ k s = .next t

/-! ## Sequencers -/

/-- Sequencer `q` issues in this frame an instruction that reads the registers `reads` (R140, R178, R179). -/
def State.issues (s : State) (q : Nat) (reads : List Nat) : Prop :=
  s.mode = .run ∧ s.contained (q / 8) = false
    ∧ ((s.seq q).state = 1 ∨ (s.seq q).state = 2 ∨ (s.seq q).state = 3 ∨ (s.seq q).state = 5)
    ∧ (s.seq q).nextIssue ≤ s.frame ∧ ((s.seq q).wait = .none ∨ (s.seq q).wait = .fence)
    ∧ ∀ r, (s.seq q).ldsReg = some r → r ∉ reads

/-- A sequencer that has issued: it runs on at word `pc`, its next instruction issues in frame `f` (R178). -/
def Seq.onward (x : Seq) (pc : BitVec 16) (f : Nat) : Seq :=
  { x with pc := pc, nextIssue := f, ldsReg := none, state := 1, wait := .none }

/-- Nothing has changed but sequencer `q`, which now is `y`. -/
def State.seqIs (s t : State) (q : Nat) (y : Seq) : Prop :=
  t = { s with seqs := t.seqs } ∧ t.seq q = y ∧ ∀ k, k ≠ q → t.seq k = s.seq k

/-! ## RDSP cores -/

/-- A core that has issued in frame `f`: the writes of the instruction before are visible, its own last late writes
come next, and issue goes on at the next word (R315, R334). -/
def Rdsp.onward (r : Rdsp) (f : Nat) : Rdsp :=
  { r.delayed.foldl Rdsp.land r with
    delayed := r.fresh, fresh := [], accOld := r.acc, srOld := r.sr, nextIssue := f + 1, pc := r.pc + 1 }

/-- Core `c` issues at a word outside every repeat and delay slot. -/
def State.issuesPlain (s : State) (c : Nat) : Prop :=
  s.rdReady c = true ∧ (s.rd c).reps = [] ∧ (s.rd c).branch = none

/-- Nothing has changed but core `c`. -/
def State.coreOnly (s t : State) (c : Nat) : Prop := t = { s with rdsps := t.rdsps } ∧ ∀ k, k ≠ c → t.rd k = s.rd k

/-! ## Host commands -/

/-- The command `t`, of opcode `op` and taken in from what `c` names, starts in this frame (R91, R97, R109 to R114). -/
def State.begins (s : State) (op : Byte) (c : HostCmd) (t : Taken) : Prop :=
  s.hostUp = true ∧ t.op = op ∧ t.cmd.queue = c.queue ∧ t.cmd.seq = c.seq ∧ t.queueByte.toNat < 64
    ∧ s.myTurn t = true

/-- The command `k` has left the command unit, with a completion of this status and payload, or in silence where
QUIET is set on a success that may be silent (R89, R94). -/
def State.answers (s t : State) (k : Taken) (st : Status) (pl : List Byte) : Prop :=
  let q := k.cmd.queue.val
  (∀ x ∈ (t.hq q).waiting ++ (t.hq q).active, x.order ≠ k.order)
    ∧ if k.cmd.flags.getLsbD 4 = true ∧ st = .ok ∧ quietable k.op.toNat = true then (t.hq q).unacked = (s.hq q).unacked
      else (t.hq q).nextCpl = (s.hq q).nextCpl + 1 ∧ ∃ c, (t.hq q).unacked = (s.hq q).unacked ++ [c]
        ∧ c.seq = (s.hq q).nextCpl ∧ c.cmdSeq = k.cmd.seq ∧ c.tag = k.cmd.tag ∧ c.status = st ∧ c.payload = pl
        ∧ c.opcode.toNat = (if k.op.toNat ≤ 0x3F then k.op.toNat + 0x40 else 0x7F) ∧ c.sentAt = s.ticks ∧ c.resends = 0

/-- A one-word write of `v` to register `a` arrives, by a WRITE that starts in this frame or by the management SPI with
nothing posted before it and the host's commands of the frame over, and meets no refusal (R11, R96, R538, R539). -/
def State.accepts (s : State) (src : Src) (a : Nat) (v : Word) : Prop :=
  match src with
  | .spi => 5 < s.phase ∧ s.mode ≠ .reset ∧ s.spi.posted = [] ∧ s.spi.kept = 0 ∧ s.spiStoring = false ∧ s.writeMode true a = true
      ∧ ((s.spiPost (BitVec.ofNat 32 a) v false).spiDrop 1).writeRefused true false a [v] = none
  | .abral c => s.cfgMode = true ∧ ∃ t, s.begins 1 c t ∧ t.cmd.arg = BitVec.ofNat 32 a
      ∧ t.cmd.payload = leBytes 4 v.toNat ∧ (s.begin t).writeRefused false false a [v] = none

end Sys2Proof.Machine
end

