-- ==== Sys2Proof/Certificates/Slice0/Obligations.lean ====
section
/-!
DEFINITION. The statements about the model, for the provers. Each says what a rule of the spec says of a command or of
the machine, and for the rows it names that the model answers a next state, and which.
-/
open Sys2Proof Sys2Proof.Machine

/-- R180: each row is an instruction, the registers it reads, its destination, its result and its flags (none: kept).
Every other register, every other sequencer, all memory and all other state are unchanged. -/
def Obligations.TarfigerArithmetic : Prop :=
  ∀ (s : State) (q : Fin 128) (o : Alu) (arith : Bool) (imm : Word) (half : BitVec 16) (gd : Fin 32),
    let x := s.seq q
    let a := x.get o.ga
    let b := if o.useImm then o.imm else x.get o.gb
    let reads : List Nat := if o.useImm then [o.ga.val] else [o.ga.val, o.gb.val]
    let n := b.toNat % 32
    let up := imm
    ∀ row ∈ ([
      (.li q gd imm, [], some gd.val, up, none, none, none),
      (.lui q gd half, [gd.val], some gd.val, half ++ (x.get gd).setWidth 16, none, none, none),
      (.add q o, reads, some o.gd.val, a + b, some (a + b == 0), some (a + b).msb,
        some (decide (2 ^ 32 ≤ a.toNat + b.toNat))),
      (.sub q o, reads, some o.gd.val, a - b, some (a - b == 0), some (a - b).msb, some (decide (a < b))),
      (.and q o, reads, some o.gd.val, a &&& b, some (a &&& b == 0), some (a &&& b).msb, none),
      (.or q o, reads, some o.gd.val, a ||| b, some (a ||| b == 0), some (a ||| b).msb, none),
      (.xor q o, reads, some o.gd.val, a ^^^ b, some (a ^^^ b == 0), some (a ^^^ b).msb, none),
      (.shl q o, reads, some o.gd.val, a <<< n, some (a <<< n == 0), some (a <<< n).msb, none),
      (.shr q o arith, reads, some o.gd.val, if arith then a.sshiftRight n else a >>> n,
        some ((if arith then a.sshiftRight n else a >>> n) == 0),
        some (if arith then a.sshiftRight n else a >>> n).msb, none),
      (.mul16 q o, reads, some o.gd.val, (a.setWidth 16).signExtend 32 * (b.setWidth 16).signExtend 32,
        some ((a.setWidth 16).signExtend 32 * (b.setWidth 16).signExtend 32 == 0),
        some ((a.setWidth 16).signExtend 32 * (b.setWidth 16).signExtend 32).msb, none),
      (.cmp q o, reads, none, 0, some (decide (a = b)), some (decide (a.toInt < b.toInt)),
        some (decide (a < b)))] :
        List (Instr × List Nat × Option Nat × Word × Option Bool × Option Bool × Option Bool)),
    match row with
    | (i, rds, dest, r, z, ng, c) =>
      s.issues q rds → ∃ t, exec i s = .next t
        ∧ s.seqIs t q ({ x with g := (t.seq q).g, z := z.getD x.z, n := ng.getD x.n, c := c.getD x.c }.onward
            (x.pc + 1) (s.frame + 1))
        ∧ ∀ k, (t.seq q).get k = if dest = some k ∧ k ≠ 0 then r else x.get k

/-- R181, R185, and of R178, R183 and R184 what a sequencer with room on its stack does. The stack errors are
`TarfigerStackErrors`. -/
def Obligations.TarfigerBranches : Prop :=
  ∀ (s : State) (q : Fin 128) (gs : Fin 32) (r : Bool) (cnt addr : BitVec 16) (cond : Fin 16),
    let x := s.seq q
    let reads : List Nat := if r then [gs.val] else []
    let target := if r then (x.get gs).setWidth 16 else addr
    let count := if r then (x.get gs).toNat else cnt.toNat
    (s.issues q reads →
      (∃ t, exec (.jmp q gs r addr) s = .next t ∧ s.seqIs t q (x.onward target (s.frame + 2)))
      ∧ (x.stack.length < 8 → ∃ t, exec (.call q gs r addr) s = .next t
          ∧ s.seqIs t q ({ x with stack := .call (x.pc + 1) :: x.stack }.onward target (s.frame + 2)))
      ∧ (count = 0 → ∃ t, exec (.loop q gs r cnt addr) s = .next t
          ∧ s.seqIs t q (x.onward (addr + 1) (s.frame + 2)))
      ∧ (count ≠ 0 ∧ x.stack.length < 8 → ∃ t, exec (.loop q gs r cnt addr) s = .next t
          ∧ s.seqIs t q ({ x with stack := .loop (x.pc + 1) addr count :: x.stack }.onward (x.pc + 1)
              (s.frame + 1))))
    ∧ (s.issues q [] →
      (∀ back rest, x.stack = .call back :: rest → ∃ t, exec (.ret q) s = .next t
          ∧ s.seqIs t q ({ x with stack := rest }.onward back (s.frame + 2)))
      ∧ (∀ body closing n rest, x.stack = .loop body closing n :: rest → 1 < n →
          ∃ t, exec (.loopE q) s = .next t
            ∧ s.seqIs t q ({ x with stack := .loop body closing (n - 1) :: rest }.onward body (s.frame + 1)))
      ∧ (∀ body closing n rest, x.stack = .loop body closing n :: rest → n ≤ 1 →
          ∃ t, exec (.loopE q) s = .next t
            ∧ s.seqIs t q ({ x with stack := rest }.onward (x.pc + 1) (s.frame + 1)))
      ∧ ∃ t, exec (.brg q cond addr) s = .next t
          ∧ ((match cond.val with
              | 0 => True
              | 1 => x.z = true
              | 2 => x.z = false
              | 3 => x.n = true
              | 4 => x.n = false
              | 5 => x.c = true
              | 6 => x.c = false
              | 7 => x.z = true ∨ x.n = true
              | 8 => x.z = false ∧ x.n = false
              | 9 => x.c = true ∨ x.z = true
              | 10 => x.c = false ∧ x.z = false
              | _ => False) → s.seqIs t q (x.onward addr (s.frame + 2)))
          ∧ (¬ (match cond.val with
              | 0 => True
              | 1 => x.z = true
              | 2 => x.z = false
              | 3 => x.n = true
              | 4 => x.n = false
              | 5 => x.c = true
              | 6 => x.c = false
              | 7 => x.z = true ∨ x.n = true
              | 8 => x.z = false ∧ x.n = false
              | 9 => x.c = true ∨ x.z = true
              | 10 => x.c = false ∧ x.z = false
              | _ => False) → s.seqIs t q (x.onward (x.pc + 1) (s.frame + 1))))

/-- R146, with the two further cases of R183; STATE reads 0b110 as R174 gives it. -/
def Obligations.TarfigerStackErrors : Prop :=
  ∀ (s : State) (q : Fin 128) (gs : Fin 32) (r : Bool) (cnt addr : BitVec 16),
    let x := s.seq q
    let reads : List Nat := if r then [gs.val] else []
    let count := if r then (x.get gs).toNat else cnt.toNat
    ∀ i, ((i = Instr.call q gs r addr ∧ s.issues q reads ∧ 8 ≤ x.stack.length)
        ∨ (i = Instr.loop q gs r cnt addr ∧ s.issues q reads ∧ count ≠ 0 ∧ 8 ≤ x.stack.length)
        ∨ (i = Instr.ret q ∧ s.issues q [] ∧ ∀ back rest, x.stack ≠ .call back :: rest)
        ∨ (i = Instr.loopE q ∧ s.issues q [] ∧ ∀ body closing n rest, x.stack ≠ .loop body closing n :: rest)) →
      ∃ t, exec i s = .next t
        ∧ t = { s with seqs := t.seqs, regs := (s.raise (aSeq q 8) 15).regs }
        ∧ t.seq q = { x with state := 6, wait := .none, ldsReg := none }
        ∧ ∀ k, k ≠ q.val → t.seq k = s.seq k

/-- R145, R176, R178, R200. A NOTIFY needs room for its record (R386). -/
def Obligations.TarfigerHaltAndNotify : Prop :=
  ∀ (s : State) (q : Fin 128) (code : Word), s.issues q [] →
    let x := s.seq q
    let record : List Byte := [5, 2] ++ leBytes 1 q.val ++ [0] ++ leBytes 4 code.toNat ++ leBytes 8 s.frame
      ++ leBytes 8 x.tl.toNat ++ List.replicate 8 0
    (∃ t, exec (.nop q) s = .next t ∧ s.seqIs t q (x.onward (x.pc + 1) (s.frame + 1)))
    ∧ (∃ t, exec (.halt q) s = .next t ∧ s.seqIs t q { x with state := 0, wait := .none, ldsReg := none })
    ∧ (∃ t, exec (.undefinedOpcode q) s = .next t
        ∧ s.seqIs t q { x with state := 0, wait := .none, ldsReg := none })
    ∧ ((∀ f, x.lastNotify = some f → f + 8192 ≤ s.ticks) → s.stagedBytes + 32 ≤ 65536 →
        ∃ t, exec (.notify q code) s = .next t
          ∧ t = { s with seqs := t.seqs, host := { s.host with event :=
              { s.host.event with recs := insertRec s.ticks record s.host.event.recs } } }
          ∧ t.seq q = { x with lastNotify := some s.ticks }.onward (x.pc + 1) (s.frame + 1)
          ∧ ∀ k, k ≠ q.val → t.seq k = s.seq k)
    ∧ (∀ f, x.lastNotify = some f → s.ticks < f + 8192 →
        ∃ t, exec (.notify q code) s = .next t ∧ s.seqIs t q (x.onward x.pc (s.frame + (f + 8192 - s.ticks))))

/-- R164, R166, R167, R185, R197: `branch` is the sense and address of a BRD, none for a WAITD. -/
def Obligations.TarfigerWaitingBranches : Prop :=
  ∀ (s : State) (q : Fin 128) (d : Fin 8192) (sense rc : Bool) (addr : BitVec 16),
    let x := s.seq q
    let dl : Int := (x.tl.toNat : Int) - 26
    let valid := s.dbitReady d rc
    let goesTo (branch : Option (Bool × BitVec 16)) : BitVec 16 := match branch with
      | some (sn, a) => if (s.dbitSeen d).value = sn then a else x.pc + 1
      | none => x.pc + 1
    ∀ i branch, ((i = Instr.brd q d sense rc addr ∧ branch = some (sense, addr)) ∨ (i = Instr.waitd q d rc ∧ branch = none)) →
      (s.issues q [] →
        (valid = true → ∃ t, exec i s = .next t ∧ s.seqIs t q (x.onward
            (goesTo branch)
            (s.frame + 2)))
        ∧ (valid = false → dl ≤ s.frame → ∃ t, exec i s = .next t
            ∧ (let u := s.seqCond .lateDbit q noTarget noFrame
               t = { u with seqs := t.seqs } ∧ t.seq q = x.onward (x.pc + 1) (s.frame + 2)
                 ∧ ∀ k, k ≠ q.val → t.seq k = s.seq k))
        ∧ (valid = false → (s.frame : Int) < dl → ∃ t, exec i s = .next t
            ∧ s.seqIs t q { x with state := 4, wait := .dbit d rc dl branch, ldsReg := none }))
      ∧ (s.mode = .run → x.state = 4 → ∀ deadline, x.wait = .dbit d rc deadline branch →
        (valid = true → ∃ t, exec (.brdResolution q) s = .next t
            ∧ s.seqIs t q { x with state := 1, wait := .none, nextIssue := s.frame + 2, pc := goesTo branch })
        ∧ (valid = false → deadline ≤ s.frame → ∃ t, exec (.brdResolution q) s = .next t
            ∧ (let u := s.seqCond .lateDbit q noTarget noFrame
               t = { u with seqs := t.seqs }
                 ∧ t.seq q = { x with state := 1, wait := .none, nextIssue := s.frame + 2, pc := x.pc + 1 }
                 ∧ ∀ k, k ≠ q.val → t.seq k = s.seq k))
        ∧ (valid = false → (s.frame : Int) < deadline →
            ∃ t, exec (.brdResolution q) s = .next t ∧ s.seqIs t q x))

/-- R149 (but for START), R169, R178, R186. A round is skipped while the thermal manager lists it (R505). The model's
choice: WAIT adds to TL modulo 2^64, where R149 gives no result for a sum beyond it (DESIGN CHOICE, log entry 61). -/
def Obligations.TarfigerTimeline : Prop :=
  ∀ (s : State) (q : Fin 128) (gs : Fin 32) (r : Bool) (n ofs : Word) (tx src : Fin 4),
    let x := s.seq q
    let next (y : Seq) := y.onward (x.pc + 1) (s.frame + 1)
    let reads : List Nat := if r then [gs.val] else []
    let reads3 : List Nat := if src = 3 then [gs.val, (gs.val + 1) % 32] else []
    let source : Long := match src.val with
      | 0 => x.tl
      | 1 => BitVec.ofNat 64 s.frame
      | 2 => x.getT tx
      | _ => x.get ((gs.val + 1) % 32) ++ x.get gs
    (s.issues q reads → ∃ t, exec (.wait q gs r n) s = .next t
      ∧ s.seqIs t q (next { x with tl := x.tl + (if r then x.get gs else n).setWidth 64 }))
    ∧ (s.issues q [] →
      (x.tl ≤ x.getT tx → ∃ t, exec (.waituntil q tx) s = .next t ∧ s.seqIs t q (next { x with tl := x.getT tx }))
      ∧ (x.getT tx < x.tl → ∃ t, exec (.waituntil q tx) s = .next t
          ∧ t = { s with seqs := t.seqs, regs := (s.raise (aSeq q 8) 14).regs }
          ∧ t.seq q = next x ∧ ∀ k, k ≠ q.val → t.seq k = s.seq k)
      ∧ (s.roundLen = 0 → ∃ t, exec (.syncr q) s = .next t ∧ s.seqIs t q (next x))
      ∧ (s.roundLen ≠ 0 →
        let opens (b : Nat) : Prop := s.origin ≤ b ∧ (b - s.origin) % s.roundLen = 0
          ∧ (b - s.origin) / s.roundLen ∉ s.therm.skipped
        ∃ b, opens b ∧ x.tl.toNat ≤ b ∧ (∀ c, opens c → x.tl.toNat ≤ c → b ≤ c)
          ∧ ∃ t, exec (.syncr q) s = .next t ∧ t.seq q = next { x with tl := BitVec.ofNat 64 b }
            ∧ t = { s with seqs := t.seqs, therm := { s.therm with syncrSeen := true, chosen := b :: s.therm.chosen } }
            ∧ ∀ k, k ≠ q.val → t.seq k = s.seq k))
    ∧ (s.issues q reads3 → ∃ t, exec (.tlget q tx src gs ofs) s = .next t
      ∧ s.seqIs t q (next { x with t := (t.seq q).t })
      ∧ ∀ k, (t.seq q).getT k = if k = tx.val then source + ofs.signExtend 64 else x.getT k)

/-- R115 to R118, R178, R199. FENCE.H asks for the streams to be sent with the records of its frame in them
(`State.fenceStreams`), which a frame can hold; frames of later records get a higher number, which orders them behind. -/
def Obligations.TarfigerFences : Prop :=
  ∀ (s : State) (q : Fin 128), s.issues q [] →
    let x := s.seq q
    (∀ i until_, ((i = Instr.fenceT q ∧ until_ = (match x.lastTimed with
            | some f => f + 4
            | none => 0))
        ∨ (i = Instr.fenceM q ∧ until_ = x.lastStore.getD 0)
        ∨ (i = Instr.fenceD q ∧ until_ = (match x.lastPublish with
            | some f => f + 6
            | none => 0))) →
      (until_ ≤ s.frame → ∃ t, exec i s = .next t ∧ s.seqIs t q (x.onward (x.pc + 1) (s.frame + 1)))
      ∧ (s.frame < until_ → ∃ t, exec i s = .next t
          ∧ s.seqIs t q { x with pc := x.pc + 1, nextIssue := until_ + 1, ldsReg := none, state := 5, wait := .fence }))
    ∧ (∃ t, exec (.fenceH q) s = .next t ∧ t = { s with seqs := t.seqs, host := { s.host with fenceH := true } }
        ∧ t.seq q = x.onward (x.pc + 1) (s.frame + 1) ∧ ∀ k, k ≠ q.val → t.seq k = s.seq k)
    ∧ (s.host.fenceH = true → (∀ p ∈ s.host.result.recs ++ s.host.event.recs,
          p.2.length ≤ s.maxPayload s.streamPort none / 16 * 16) →
        s.fenceStreams.host.result.recs = [] ∧ s.fenceStreams.host.event.recs = [] ∧ s.fenceStreams.host.fenceH = false
          ∧ s.fenceStreams.host.gen = s.host.gen + 1)
    ∧ (s.host.fenceH = false → s.fenceStreams = s)

/-- R115, R172, R179, R182: the frame in which another sequencer sees the word is a free value of at most 8 frames. An LDS that meets an uncorrectable error is a cluster fault (R127). -/
def Obligations.TarfigerScratch : Prop :=
  ∀ (s : State) (q : Fin 128) (gd ga gb : Fin 32) (imm : Word) (ecc : Ecc),
    let x := s.seq q
    let w := (x.get ga + imm).toNat % 16384
    let next (y : Seq) := y.onward (x.pc + 1) (s.frame + 1)
    (s.issues q [ga.val] →
      (w < 15360 → ecc ≠ .uncorrectable → ∃ t, exec (.lds q gd ga imm ecc) s = .next t
        ∧ s.seqIs t q { next { x with g := (t.seq q).g } with ldsReg := some gd.val }
        ∧ ∀ k, (t.seq q).get k = if k = gd.val ∧ k ≠ 0 then s.scratchSeen q w else x.get k)
      ∧ (w < 15360 → ecc = .uncorrectable → exec (.lds q gd ga imm ecc) s
          = .next ((s.modSeq q (fun y => { y with ldsReg := none, state := 1, wait := .none })).eccFault
              (some (q.val / 8)) 4 w))
      ∧ (15360 ≤ w → ∃ t, exec (.lds q gd ga imm ecc) s = .next t
        ∧ t = { s with seqs := t.seqs, regs := (s.raise (aSeq q 8) 16).regs }
        ∧ t.seq q = { next { x with g := (t.seq q).g } with ldsReg := some gd.val }
        ∧ (∀ k, k ≠ q.val → t.seq k = s.seq k)
        ∧ ∀ k, (t.seq q).get k = if k = gd.val then 0 else x.get k))
    ∧ (s.issues q [ga.val, gb.val] →
      (w < 15360 → ∃ t, exec (.sts q ga gb imm) s = .next t
        ∧ t = { s with seqs := t.seqs, clusters := t.clusters, freeCtr := s.freeCtr + 1 }
        ∧ t.scratchSeen q w = x.get gb
        ∧ (∀ k, k ≠ w → t.scratchSeen q k = s.scratchSeen q k)
        ∧ (∃ vis, s.frame + 1 ≤ vis ∧ t.cl (q.val / 8) = { s.cl (q.val / 8) with
            stores := (s.cl (q.val / 8)).stores ++ [⟨q, w, x.get gb, vis⟩] })
        ∧ t.seq q = next { x with lastStore := (t.seq q).lastStore } ∧ ∀ k, k ≠ q.val → t.seq k = s.seq k)
      ∧ (15360 ≤ w → ∃ t, exec (.sts q ga gb imm) s = .next t
        ∧ t = { s with seqs := t.seqs, regs := (s.raise (aSeq q 8) 16).regs }
        ∧ t.seq q = next x ∧ ∀ k, k ≠ q.val → t.seq k = s.seq k))

/-- R140, R151, R155, R177, R178, R187 to R194: each row is an instruction, its target, the registers it reads and the
event's operands. -/
def Obligations.TarfigerTimedEvents : Prop :=
  ∀ (s : State) (q : Fin 128) (tgt : BitVec 8) (pl : PlayOp) (cp : CplayOp) (fl : FluxOp) (pr : ProbeOp)
    (ac : AcquireOp) (width : BitVec 16) (fs gs : Fin 32) (r all : Bool) (ph : Word),
    let x := s.seq q
    let half (r : Bool) (gs : Fin 32) (v : BitVec 16) : BitVec 16 := if r then (x.get gs).setWidth 16 else v
    let opt (r : Bool) (gs : Fin 32) : List Nat := if r then [gs.val] else []
    let sg := (x.get cp.gs).toNat
    ∀ row ∈ ([
      (.play q pl, pl.tgt, opt pl.r pl.gs, .play (half pl.r pl.gs pl.seg).toNat pl.fs),
      (.cplay q cp, cp.tgt, [cp.gs.val, cp.gp.val], .cplay ⟨cp.dbit, cp.dflt, cp.rc, cp.pf,
        (x.get cp.gp).toNat % 1024, cp.n0, cp.n1, sg % 65536, sg / 65536, cp.fs0, cp.fs1, none⟩),
      (.flux q fl, fl.tgt, opt fl.r fl.gs, .flux (half fl.r fl.gs fl.seg).toNat fl.scale),
      (.probe q pr, pr.tgt, opt pr.r pr.gs, .probe (half pr.r pr.gs pr.seg).toNat pr.fs pr.ao pr.amp),
      (.acquire q ac, ac.tgt, opt ac.r ac.gs,
        .acquire (min 8192 (if ac.r then (x.get ac.gs).toNat else ac.len.toNat)) ac.recd ac.rd),
      (.mark q tgt width, tgt, [], .mark width.toNat),
      (.setf q tgt fs gs, tgt, [gs.val, (gs.val + 1) % 32],
        .setf fs ((x.get ((gs.val + 1) % 32)).setWidth 16 ++ x.get gs)),
      (.vz q tgt fs r gs ph, tgt, opt r gs, .vz fs (if r then x.get gs else ph)),
      (.phrst q tgt fs all, tgt, [], .phrst fs all)] : List (Instr × BitVec 8 × List Nat × EvKind)),
    match row with
    | (i, goal, rds, kind) =>
      s.issues q rds → x.tl.toNat ≤ s.frame + 2 ^ 20 → s.owns q goal.toNat = true → kind.drives goal.toNat = true →
      (s.tq (tkey (q / 8) goal.toNat)).size < 64 → x.stampsAt x.tl.toNat < 2 →
      ∃ t ev, exec i s = .next t
        ∧ ev.seq = q.val ∧ ev.t = x.tl.toNat ∧ ev.issue = s.frame ∧ ev.kind = kind
        ∧ ev.tentative = false ∧ ev.rerun = false
        ∧ t = { s with seqs := t.seqs, tqueues := t.tqueues, freeCtr := t.freeCtr }
        ∧ t.tq (tkey (q / 8) goal.toNat)
            = { s.tq (tkey (q / 8) goal.toNat) with flight := (s.tq (tkey (q / 8) goal.toNat)).flight ++ [ev] }
        ∧ (∀ k, k ≠ tkey (q / 8) goal.toNat → t.tq k = s.tq k)
        ∧ t.seq q = { x with lastTimed := some s.frame, stamps := (t.seq q).stamps }.onward (x.pc + 1) (s.frame + 1)
        ∧ (∀ f, (t.seq q).stampsAt f = x.stampsAt f + (if f = x.tl.toNat then 1 else 0))
        ∧ ∀ k, k ≠ q.val → t.seq k = s.seq k

/-- R142, R152, R153, R155, R160: each row is an instruction, its target, the registers it reads and its event. That a
dropped event counts for FENCE.T (`lastTimed`) is the model's choice, and not stated here (log entry 61). -/
def Obligations.TarfigerTimedStalls : Prop :=
  ∀ (s : State) (q : Fin 128) (tgt : BitVec 8) (pl : PlayOp) (cp : CplayOp) (fl : FluxOp) (pr : ProbeOp)
    (ac : AcquireOp) (width : BitVec 16) (fs gs : Fin 32) (r all : Bool) (ph : Word),
    let x := s.seq q
    let opt (r : Bool) (gs : Fin 32) : List Nat := if r then [gs.val] else []
    ∀ row ∈ ([
      (.play q pl, pl.tgt, opt pl.r pl.gs, playKind pl x), (.cplay q cp, cp.tgt, [cp.gs.val, cp.gp.val], cplayKind cp x),
      (.flux q fl, fl.tgt, opt fl.r fl.gs, fluxKind fl x), (.probe q pr, pr.tgt, opt pr.r pr.gs, probeKind pr x),
      (.acquire q ac, ac.tgt, opt ac.r ac.gs, acquireKind ac x), (.mark q tgt width, tgt, [], .mark width.toNat),
      (.setf q tgt fs gs, tgt, [gs.val, (gs.val + 1) % 32], setfKind fs gs x),
      (.vz q tgt fs r gs ph, tgt, opt r gs, vzKind fs r gs ph x), (.phrst q tgt fs all, tgt, [], .phrst fs all)] :
        List (Instr × BitVec 8 × List Nat × EvKind)),
    match row with
    | (i, goal, rds, kind) =>
      s.issues q rds →
      let full : Prop := goal.toNat < 228 ∧ 64 ≤ (s.tq (tkey (q / 8) goal.toNat)).size
      let refused : Prop := s.owns q goal.toNat = false ∨ kind.drives goal.toNat = false
      let dropped (c : SeqCond) : Prop := ∃ t, exec i s = .next t
        ∧ (let u := s.seqCond c q goal.toNat x.tl.toNat
           t = { u with seqs := t.seqs } ∧ ∀ k, t.tq k = s.tq k)
        ∧ (t.seq q).pc = x.pc + 1 ∧ (t.seq q).tl = x.tl ∧ (t.seq q).nextIssue = s.frame + 1
        ∧ (∀ f, (t.seq q).stampsAt f = x.stampsAt f + (if f = x.tl.toNat then 1 else 0))
        ∧ ∀ k, k ≠ q.val → t.seq k = s.seq k
      (s.frame + 2 ^ 20 < x.tl.toNat → ∃ t, exec i s = .next t
        ∧ s.seqIs t q { x with state := 3, wait := .none, ldsReg := none, nextIssue := x.tl.toNat - 2 ^ 20 })
      ∧ (x.tl.toNat ≤ s.frame + 2 ^ 20 → full → ∃ t, exec i s = .next t
        ∧ s.seqIs t q { x with state := 2, wait := .none, ldsReg := none, nextIssue := s.frame + 1 })
      ∧ (x.tl.toNat ≤ s.frame + 2 ^ 20 → ¬ full → refused → dropped .targetRefused)
      ∧ (x.tl.toNat ≤ s.frame + 2 ^ 20 → ¬ full → ¬ refused → 2 ≤ x.stampsAt x.tl.toNat → dropped .stampOver)

/-- R116, R124, R178, R196, R198. -/
def Obligations.PublishAndCmt : Prop :=
  ∀ (s : State) (q : Fin 128) (j : Fin 8) (v r inv : Bool) (gs : Fin 32) (gid : Word),
    let x := s.seq q
    let g := (if r then x.get gs else gid).toNat
    let mine : Prop := groupListed g = true ∧ groupCluster g = some (q.val / 8)
    (s.issues q (if r && !inv then [gs.val] else []) →
      ∃ t, exec (.publish q j v r gs inv) s = .next t
        ∧ t = { s with seqs := t.seqs, dwrites := s.dwrites ++
            [⟨s.frame + 4, 7168 + 8 * q.val + j.val, if r then (x.get gs).getLsbD 0 else v, inv⟩] }
        ∧ t.seq q = { x with lastPublish := some s.frame }.onward (x.pc + 1) (s.frame + 1)
        ∧ ∀ k, k ≠ q.val → t.seq k = s.seq k)
    ∧ (s.issues q (if r then [gs.val] else []) →
      (mine → ∃ t c, exec (.cmt q r gs gid) s = .next t
        ∧ t = { s with seqs := t.seqs, commits := s.commits ++ [c], host := { s.host with order := t.host.order } }
        ∧ c.groups = [if r then x.get gs else gid] ∧ c.sequencer = q.val ∧ c.host = none
        ∧ c.frame = (if x.tl.toNat ≤ s.frame + 4 then s.frame + 5 else x.tl.toNat)
        ∧ t.seq q = x.onward (x.pc + 1) (s.frame + 1) ∧ ∀ k, k ≠ q.val → t.seq k = s.seq k)
      ∧ (¬ mine → ∃ t, exec (.cmt q r gs gid) s = .next t
        ∧ (let u := s.seqCond .targetRefused q noTarget noFrame
           t = { u with seqs := t.seqs })
        ∧ t.seq q = x.onward (x.pc + 1) (s.frame + 1) ∧ ∀ k, k ≠ q.val → t.seq k = s.seq k))

/-- R201, R202: the entry-table index is 0, 1, 2 or 128 + N, and the operands are those of R398. -/
def Obligations.MacroOpsRequest : Prop :=
  ∀ (s : State) (q : Fin 128) (o : MacroOp),
    let x := s.seq q
    let c := q.val / 8
    let g (k : Nat) : Nat := (o.gs.val + k) % 32
    s.issues q [g 0, g 1, g 2, g 3] →
    ∀ i n, (i, n) ∈ ([(.meas q o, 0), (.round q o, 1), (.trackwin q o, 2), (.ucall q o, 128 + o.arg.toNat % 128)] :
        List (Instr × Nat)) →
      ∃ t req before after, exec i s = .next t
        ∧ t = { s with seqs := t.seqs, mes := t.mes }
        ∧ t.seq q = { x with state := 1, wait := .routine, ldsReg := none } ∧ (∀ k, k ≠ q.val → t.seq k = s.seq k)
        ∧ (s.me c).reqs = before ++ after
        ∧ t.me c = { s.me c with reqs := before ++ req :: after } ∧ (∀ k, k ≠ c → t.me k = s.me k)
        ∧ req.host = false ∧ req.seq = q.val % 8 ∧ req.index = n ∧ req.issue = s.frame
        ∧ req.w = [x.get (g 0), x.get (g 1), x.get (g 2), x.get (g 3), o.imm, o.arg.setWidth 32,
            BitVec.ofNat 32 (q.val % 8)]
        ∧ req.tl = x.tl ∧ req.t = [x.getT 0, x.getT 1, x.getT 2, x.getT 3]
        ∧ (∀ k, k ∈ req.targets ↔ k < 228 ∧ s.owns q k = true)
        ∧ (∀ y ∈ before, y.issue < s.frame ∨ (y.issue = s.frame ∧ y.seq ≤ q.val % 8))
        ∧ (∀ y, after.head? = some y → s.frame < y.issue ∨ (s.frame = y.issue ∧ q.val % 8 < y.seq))

/-- R140, R179: each row is an instruction with the g registers it reads. That CPLAY with PF = 0b00 reads gp too is the
model's choice (DESIGN CHOICE, log entry 61). -/
def Obligations.LoadInterlock : Prop :=
  ∀ (s : State) (q : Fin 128) (o : Alu) (gs gd ga gb : Fin 32) (addr cnt half width : BitVec 16) (imm : Word) (reg : Nat)
    (arith r v inv sense rc all : Bool) (cond : Fin 16) (d : Fin 8192) (tx src : Fin 4) (j : Fin 8) (ecc : Ecc)
    (tgt : BitVec 8) (pl : PlayOp) (cp : CplayOp) (fl : FluxOp) (pr : ProbeOp) (ac : AcquireOp) (mo : MacroOp),
    let alu : List Nat := if o.useImm then [o.ga.val] else [o.ga.val, o.gb.val]
    let opt (r : Bool) (gs : Fin 32) : List Nat := if r then [gs.val] else []
    let four : List Nat := [mo.gs.val, (mo.gs.val + 1) % 32, (mo.gs.val + 2) % 32, (mo.gs.val + 3) % 32]
    ∀ row ∈ ([
      (.nop q, []), (.halt q, []), (.notify q imm, []), (.jmp q gs r addr, opt r gs), (.call q gs r addr, opt r gs),
      (.ret q, []), (.loop q gs r cnt addr, opt r gs), (.loopE q, []), (.brg q cond addr, []),
      (.brd q d sense rc addr, []), (.li q gd imm, []), (.lui q gd half, [gd.val]), (.add q o, alu), (.sub q o, alu),
      (.and q o, alu), (.or q o, alu), (.xor q o, alu), (.shl q o, alu), (.shr q o arith, alu), (.mul16 q o, alu),
      (.cmp q o, alu), (.lds q gd ga imm ecc, [ga.val]), (.sts q ga gb imm, [ga.val, gb.val]),
      (.wait q gs r imm, opt r gs), (.waituntil q tx, []), (.syncr q, []),
      (.tlget q tx src gs imm, if src = 3 then [gs.val, (gs.val + 1) % 32] else []),
      (.play q pl, opt pl.r pl.gs), (.cplay q cp, [cp.gs.val, cp.gp.val]), (.flux q fl, opt fl.r fl.gs),
      (.probe q pr, opt pr.r pr.gs), (.acquire q ac, opt ac.r ac.gs), (.mark q tgt width, []),
      (.setf q tgt gd gs, [gs.val, (gs.val + 1) % 32]), (.vz q tgt gd r gs imm, opt r gs), (.phrst q tgt gd all, []),
      (.publish q j v r gs inv, opt (r && !inv) gs), (.waitd q d rc, []), (.cmt q r gs imm, opt r gs), (.fenceT q, []),
      (.fenceM q, []), (.fenceD q, []), (.fenceH q, []), (.meas q mo, four), (.round q mo, four), (.trackwin q mo, four),
      (.ucall q mo, four), (.undefinedOpcode q, [])] : List (Instr × List Nat)),
    (reg ∈ row.2 → (s.seq q).ldsReg = some reg → s.seqReady q = true →
      ∃ t, exec row.1 s = .next t ∧ s.seqIs t q { s.seq q with ldsReg := none, nextIssue := s.frame + 1 })
    ∧ (s.mode ≠ .run ∨ s.contained (q / 8) = true ∨ s.frame < (s.seq q).nextIssue ∨ (s.seq q).state = 0
        ∨ (s.seq q).state = 4 ∨ (s.seq q).state = 6 ∨ ((s.seq q).wait ≠ .none ∧ (s.seq q).wait ≠ .fence) →
      exec row.1 s = .next s)

/-- R154, R156, R160; an event of a re-running section that is late is `UC_RESTART_LATE` instead (R416). -/
def Obligations.EventAcceptance : Prop :=
  ∀ (s : State) (c : Fin 16) (tgt : Fin 228) (e : Ev) (rest : List Ev),
    let k := tkey c tgt
    (s.tq k).flight = e :: rest →
    let conflict : Prop := ∃ y ∈ (s.tq k).held, e.t < y.t ∨ (e.kind.isPlay = true ∧ y.kind.isPlay = true ∧ y.t = e.t)
    (s.frame < e.issue + 4 → exec (.eventAccept c tgt) s = .next s)
    ∧ (e.issue + 4 ≤ s.frame → e.issue + 24 ≤ e.t → ¬ conflict → ∃ t, exec (.eventAccept c tgt) s = .next t
        ∧ t = { s with tqueues := t.tqueues } ∧ t.tq k = ⟨rest, (s.tq k).held ++ [e]⟩
        ∧ ∀ j, j ≠ k → t.tq j = s.tq j)
    ∧ (e.issue + 4 ≤ s.frame → e.issue + 24 ≤ e.t → conflict → ∃ t, exec (.eventAccept c tgt) s = .next t
        ∧ (let u := s.seqCond .stampConflict e.seq tgt e.t
           t = { u with tqueues := t.tqueues }) ∧ t.tq k = ⟨rest, (s.tq k).held⟩ ∧ ∀ j, j ≠ k → t.tq j = s.tq j)
    ∧ (e.issue + 4 ≤ s.frame → e.t < e.issue + 24 → e.rerun = false → ∃ t, exec (.eventAccept c tgt) s = .next t
        ∧ (let u := s.seqCond .lateEvent e.seq tgt e.t
           t = { u with tqueues := t.tqueues }) ∧ t.tq k = ⟨rest, (s.tq k).held⟩ ∧ ∀ j, j ≠ k → t.tq j = s.tq j)

/-- R161, R162, R380. -/
def Obligations.ConditionReports : Prop :=
  ∀ (s : State) (c : Fin 16),
    (∀ (q : Fin 128) (k : SeqCond) (tgt f : Nat),
      let t := s.seqCond k q tgt f
      let l := (s.cl (q / 8)).late
      bitOf (t.regN (aSeq q 8)) k.status = true
      ∧ (∀ o, k.counter = some o → t.regN (aSeq q o) = min (2 ^ 32 - 1) (s.regN (aSeq q o) + 1))
      ∧ (t.cl (q / 8)).late.count = (if l.count = 0 then 1 else min 65535 (l.count + 1))
      ∧ (l.count ≠ 0 → (t.cl (q / 8)).late.seq = l.seq ∧ (t.cl (q / 8)).late.target = l.target
          ∧ (t.cl (q / 8)).late.frame = l.frame
          ∧ (t.cl (q / 8)).late.conds = l.conds ||| BitVec.ofNat 6 (2 ^ k.bit))
      ∧ (l.count = 0 → (t.cl (q / 8)).late = ⟨BitVec.ofNat 6 (2 ^ k.bit), 1, q, tgt, f⟩)
      ∧ t = { s with regs := t.regs, clusters := t.clusters })
    ∧ (s.frame % 65536 ≠ 0 → exec (.latenessReport c) s = .next s)
    ∧ (s.frame % 65536 = 0 →
      let l := (s.cl c).late
      let record : List Byte := [4, 2] ++ leBytes 1 c ++ leBytes 1 l.conds.toNat ++ leBytes 2 l.count
        ++ leBytes 1 l.seq ++ leBytes 1 l.target ++ leBytes 8 (s.frame - 65536) ++ leBytes 8 l.frame
        ++ List.replicate 8 0
      ∃ t, exec (.latenessReport c) s = .next t ∧ (t.cl c) = { s.cl c with late := .init }
        ∧ (∀ k, k ≠ c.val → t.cl k = s.cl k)
        ∧ (l.count = 0 ∨ s.fld (aCl c 0x800) 0 0 = 0 → t = { s with clusters := t.clusters })
        ∧ (l.count ≠ 0 → s.fld (aCl c 0x800) 0 0 = 1 → s.mode = .run → s.stagedBytes + 32 ≤ 65536 →
            t = { s with clusters := t.clusters, host := { s.host with event :=
              { s.host.event with recs := insertRec s.ticks record s.host.event.recs } } }))

/-- R158, R159, R163 to R165, R187 to R194, R232, R268, R269, R298, R303, R304, for directory reads without a memory
error. -/
def Obligations.SelectAndRelease : Prop :=
  ∀ (s : State) (c : Fin 16) (tgt : Fin 228) (ecc : Ecc) (m : Fin 64),
    let k := tkey c tgt
    (∀ e rest p, (s.tq k).held = e :: rest → e.kind = .cplay p → e.tentative = false → p.chosen = none →
      e.t ≤ s.frame + 4 → (∀ y ∈ rest, y.id ≠ e.id) →
      let ready := s.dbitReady p.dbit p.rc
      let v := if ready then (s.dbitSeen p.dbit).value != s.pfTerm p.pf p.qubit else p.dflt
      ∃ t, exec (.selectDeadline c tgt) s = .next t
        ∧ t.tq k = ⟨(s.tq k).flight, { e with kind := .cplay { p with chosen := some v } } :: rest⟩
        ∧ (∀ j, j ≠ k → t.tq j = s.tq j)
        ∧ (let u := if ready = true ∨ (p.n0 = true ∧ p.n1 = true) then s else s.seqCond .lateSelect e.seq tgt e.t
           t = { u with tqueues := t.tqueues }))
    ∧ (∀ e, (s.tq k).held = [e] → e.t ≤ s.frame → e.tentative = false →
      ∃ t, exec (.eventRelease c tgt ecc) s = .next t ∧ (t.tq k).held = [] ∧ (t.tq k).flight = (s.tq k).flight
        ∧ (∀ fs ph, e.kind = .vz fs ph → t = { s with tqueues := t.tqueues, regs := t.regs }
            ∧ t.reg (aVoiceSlot c tgt fs + 0x18) = s.reg (aVoiceSlot c tgt fs + 0x18) + ph
            ∧ ∀ a, a ≠ aVoiceSlot c tgt fs + 0x18 → t.reg a = s.reg a)
        ∧ (∀ fs, e.kind = .phrst fs false → t = { s with tqueues := t.tqueues, regs := t.regs }
            ∧ t.reg (aVoiceSlot c tgt fs + 0x18) = s.reg (aVoiceSlot c tgt fs + 8)
            ∧ ∀ a, a ≠ aVoiceSlot c tgt fs + 0x18 → t.reg a = s.reg a)
        ∧ (∀ fs, e.kind = .phrst fs true → t = { s with tqueues := t.tqueues, regs := t.regs }
            ∧ (∀ j, j < 32 → t.reg (aVoiceSlot c tgt j + 0x18) = s.reg (aVoiceSlot c tgt j + 8))
            ∧ ∀ a, (∀ j, j < 32 → a ≠ aVoiceSlot c tgt j + 0x18) → t.reg a = s.reg a)
        ∧ (∀ fs w, e.kind = .setf fs w →
            t = { s with tqueues := t.tqueues, regs := t.regs, baselines := t.baselines }
            ∧ t.reg (aVoiceSlot c tgt fs + 0x10) = w.setWidth 32
            ∧ t.reg (aVoiceSlot c tgt fs + 0x14) = (w >>> 32).setWidth 32
            ∧ ∀ a, a ≠ aVoiceSlot c tgt fs + 0x10 → a ≠ aVoiceSlot c tgt fs + 0x14 → t.reg a = s.reg a)
        ∧ (∀ w, e.kind = .mark w → t = { s with tqueues := t.tqueues, markers := t.markers }
            ∧ (t.marker (tgtChan c tgt)).mark = cutSpans (s.marker (tgtChan c tgt)).mark s.ticks
                ++ (if w = 0 then [] else [(s.ticks, s.ticks + w)]))
        ∧ (∀ p v, e.kind = .cplay p → p.chosen = some v → (if v then p.n1 else p.n0) = true → t = { s with tqueues := t.tqueues })
        ∧ (∀ seg slot scale amp cond, ecc = .clean →
            (e.kind = .play seg slot ∧ scale = 32768 ∧ amp = none ∧ cond = false)
            ∨ (∃ sc, e.kind = .flux seg sc ∧ slot = 0 ∧ scale = sc.toInt ∧ amp = none ∧ cond = false)
            ∨ (∃ ao a, e.kind = .probe seg slot ao a ∧ scale = 32768 ∧ amp = (if ao then some a else none) ∧ cond = false)
            ∨ (∃ p v, e.kind = .cplay p ∧ p.chosen = some v ∧ (if v then p.n1 else p.n0) = false
                ∧ seg = (if v then p.seg1 else p.seg0) ∧ slot = (if v then p.fs1 else p.fs0) ∧ scale = 32768 ∧ amp = none
                ∧ cond = true) →
            (∀ j, j ≠ k → t.playOn j = s.playOn j)
            ∧ (s.entryPlays (s.entry seg) c tgt cond = true →
              t = { s with tqueues := t.tqueues, plays := t.plays, clusters := t.clusters, markers := t.markers,
                           voices := t.voices }
              ∧ t.playOn k = some { seq := e.seq, entry := s.entry seg, t := s.ticks, slot := slot, scale := scale, amp := amp,
                                    next := 0, base := (s.cl c).rd, succ := none, selected := false, lost := false,
                                    env := [], phase := 0, upTo := none })
            ∧ (s.entryPlays (s.entry seg) c tgt cond = false → t.playOn k = none ∧ t.fld (aCl c 0xC08) 2 2 = 1
              ∧ t.regN (aCl c 0xC1C) = min (2 ^ 32 - 1) (s.regN (aCl c 0xC1C) + 1)))
        ∧ (∀ len recd rd, e.kind = .acquire len recd rd →
            let i := tgtChan c tgt
            t = { s with tqueues := t.tqueues, slots := t.slots, dbits := t.dbits, dlog := t.dlog }
            ∧ t.dbit (2 * i) = { s.dbit (2 * i) with valid := false }
            ∧ t.dbit (2 * i + 1) = { s.dbit (2 * i + 1) with valid := false } ∧ (t.slot i).codes = []
            ∧ (∀ j, j ≠ i → t.slot j = s.slot j)
            ∧ ∃ old w, (t.slot i).wins = old ++ [w] ∧ w.t = s.frame ∧ w.tick = s.ticks ∧ w.len = len ∧ w.recd = recd
              ∧ w.rd = rd ∧ w.cut = false ∧ w.trk = none ∧ w.noCode = false ∧ w.res = none ∧ w.mode = bitOf (s.regN (aSlot i 0x14)) 24 ∧ w.nw = s.fld (aSlot i 0x14) 12 0
              ∧ w.shift = s.fld (aSlot i 0x14) 20 16 ∧ old.length = (s.slot i).wins.length
              ∧ (∀ y ∈ old, y.trk = none → y.noCode = true)
              ∧ ∀ y, (s.slot i).wins = [y] → y.trk = none → y.tick ≤ s.ticks → s.ticks < y.tick + y.len →
                  old = [{ y with noCode := true, len := s.ticks - y.tick, cut := true }]))
    ∧ (∀ a b fs ph, a.t ≤ s.frame → b.t ≤ s.frame → a.tentative = false → b.tentative = false → a.kind = .vz fs ph →
      b.kind = .phrst fs false →
      ((s.tq k).held = [a, b] → ∃ t, exec (.eventRelease c tgt ecc) s = .next t ∧ (t.tq k).held = []
        ∧ t.reg (aVoiceSlot c tgt fs + 0x18) = s.reg (aVoiceSlot c tgt fs + 8))
      ∧ ((s.tq k).held = [b, a] → ∃ t, exec (.eventRelease c tgt ecc) s = .next t ∧ (t.tq k).held = []
        ∧ t.reg (aVoiceSlot c tgt fs + 0x18) = s.reg (aVoiceSlot c tgt fs + 8) + ph))
    ∧ ((∀ e ∈ (s.tq k).held, e.t ≤ s.frame ∧ e.tentative = false) →
        exec (.eventRelease c tgt ecc) s = .next (((s.tq k).held.filter (fun e => e.kind.isPlay)).foldl
          (fun u e => u.playEvent c tgt e ecc) (((s.tq k).held.filter (fun e => !e.kind.isPlay)).foldl
            (fun u e => u.phaseEvent c tgt e.kind) (s.modTq k (fun y => { y with held := [] })))))
    ∧ (∀ e rest, (s.tq k).held = e :: rest → s.frame < e.t → (∀ y ∈ rest, s.frame < y.t) →
        ∃ t, exec (.eventRelease c tgt ecc) s = .next t
          ∧ t = { s with tqueues := t.tqueues } ∧ ∀ j, t.tq j = s.tq j)
    ∧ (∃ t, exec (.markerPulseEnd m) s = .next t ∧ t = { s with markers := t.markers }
        ∧ (∀ p, p ∈ (t.marker m).mark ↔ p ∈ (s.marker m).mark ∧ s.ticks ≤ p.2 + 32)
        ∧ (∀ p, p ∈ (t.marker m).trig ↔ p ∈ (s.marker m).trig ∧ s.ticks ≤ p.2 + 32)
        ∧ ∀ j, j ≠ m.val → t.marker j = s.marker j)

/-- R416. -/
def Obligations.TentativeEntries : Prop :=
  ∀ (s : State) (c : Fin 16) (tgt : Fin 228),
    let k := tkey c tgt
    (∀ e rest, (s.tq k).held = e :: rest → e.tentative = true → e.t ≤ s.frame + 4 →
      (∀ y ∈ rest, y.tentative = false ∨ s.frame + 4 < y.t) → e.rerun = false →
      ∃ t, exec (.tentativeEntryDeadline c tgt) s = .next t ∧ t.tq k = ⟨(s.tq k).flight, rest⟩
        ∧ (∀ j, j ≠ k → t.tq j = s.tq j)
        ∧ (let u := s.seqCond .lateEvent e.seq tgt e.t
           t = { u with tqueues := t.tqueues }))
    ∧ (∀ e rest, (s.tq k).held = e :: rest → e.tentative = true → e.t ≤ s.frame + 4 →
      (∀ y ∈ rest, y.tentative = false ∨ s.frame + 4 < y.t) → e.rerun = true →
      ∃ u, u = s.modTq k (fun y => { y with held := rest })
        ∧ exec (.tentativeEntryDeadline c tgt) s = .next ((u.raise (aCl c 0x1000) 8).clusterFaultAfter
            (fun b => b.raise (aCl c 0x1000) 8) c 0x05))
    ∧ ((∀ e ∈ (s.tq k).held, e.rerun = false) → ∃ t, exec (.tentativeEntryDeadline c tgt) s = .next t
        ∧ ∀ e, e ∈ (t.tq k).held ↔ e ∈ (s.tq k).held ∧ (e.tentative = false ∨ s.frame + 4 < e.t))
    ∧ ((∀ e ∈ (s.tq k).held, e.tentative = false ∨ s.frame + 4 < e.t) →
        exec (.tentativeEntryDeadline c tgt) s = .next s)

/-- R79, R81, R83, R89, R93, R94, R100: the completion also goes out as a datagram where its port is up. -/
def Obligations.CompletionForm : Prop :=
  (∀ (s : State) (k : Taken) (st : Status) (pl : List Byte),
    s.answers (s.complete k st pl) k st pl ∧ s.complete k st pl = { s with host := (s.complete k st pl).host }
      ∧ ∀ q, q ≠ k.cmd.queue.val → (s.complete k st pl).hq q = s.hq q)
  ∧ (∀ f : TxFrame, f.payload.length ≤ 8192 →
    let l := f.abral
    l.length = 32 + f.payload.length ∧ leAt l 0 1 = 1 ∧ leAt l 1 1 = f.queue.toNat ∧ leAt l 2 1 = f.opcode.toNat
      ∧ leAt l 3 1 = f.status.toNat ∧ leAt l 4 2 = f.flags.toNat ∧ leAt l 6 2 = f.epoch.toNat ∧ leAt l 8 4 = f.seq.toNat
      ∧ leAt l 0xC 4 = f.ack.toNat ∧ leAt l 0x10 4 = f.tag.toNat ∧ leAt l 0x14 2 = f.payload.length
      ∧ leAt l 0x18 4 = f.arg.toNat ∧ leAt l 0x1C 4 = payloadCrc f.payload ∧ l.drop 32 = f.payload)
  ∧ ∀ (h : NetHeader) (id : BitVec 16) (data : List Byte), h.v6 = false → data.length < 65000 →
    sum16 ((h.ipv4 id data).take 20) = 65535

/-- R90, R91, R97, R109 to R114; shown on WRITE, COMMIT and FENCE. R90 speaks of unacknowledged completions: that a command
started counts with them, and that an aborted one still to complete holds its queue, is the model's choice (log entry 39), and
so is the clash of two commands by the bytes still to reach, one of them reading (log entry 56). -/
def Obligations.CommandStart : Prop :=
  ∀ (s : State) (t : Taken) (c : HostCmd),
    (s.canStart t = true →
      let h := s.hq t.cmd.queue
      s.host.lastStart ≠ some s.frame ∧ h.unacked.length + h.active.length < 1024 ∧ h.aborting = [] ∧ (∃ rest, h.waiting = t :: rest)
        ∧ (∀ r, s.host.recover = some r → t.order ≤ r.order)
        ∧ (t.cmd.flags.getLsbD 0 = true ∨ t.op = 5 ∨ t.op = 7 ∨ t.op = 8 ∨ t.op = 9 → h.active = [])
        ∧ (∀ u ∈ h.active, u.op ≠ 6 ∧ u.op ≠ 0xA ∧ (u.op = 4 → s.blockHeld u = false))
        ∧ (∀ k q, (k, q) ∈ s.host.queues → ∀ u ∈ q.active, ∀ a n r b m w, t.reach = some (a, n, r) →
            s.left u = some (b, m, w) → (r = true ∨ w = true) → b + m ≤ a ∨ a + n ≤ b))
    ∧ (s.myTurn t = true → s.canStart t = true ∧ (s.host.lastQueue < 64 → ∀ q u, q < 64 →
        (q + 63 - s.host.lastQueue) % 64 < (t.cmd.queue.val + 63 - s.host.lastQueue) % 64 →
        (s.hq q).waiting.head? = some u → s.canStart u = false ∨ u = t))
    ∧ (∀ op i, (op, i) ∈ ([(1, .write c), (5, .commit c), (6, .fence c)] : List (Byte × Instr)) →
        s.waitingCmd op c = some t → s.myTurn t = false → exec i s = .next s)

/-- R71, R73, R77, R79, R82, R83, R86, R88; `l` is the Abral datagram. The port is not in bootstrap, and the frame is
no PTP frame. -/
def Obligations.DatagramsTakenIn : Prop :=
  ∀ (s : State) (p : Fin 4) (f : EthFrame) (ip : IpPart),
    s.hostUp = true → s.portUsed p = true → (s.hport p).up = true →
    (f.fcsOk = false ∨ 9216 < f.length → exec (.receiveFrame p f) s = .next (s.count 0x01000040 1))
    ∧ (f.fcsOk = true → 64 ≤ f.length → f.length ≤ 9216 → f.etherType = 0x8808 →
        exec (.receiveFrame p f) s = .next (s.count 0x01000044 1))
    ∧ (f.fcsOk = true → 64 ≤ f.length → f.length ≤ 9216 → f.etherType ≠ 0x8808 → s.ptpTransport p f = none →
        f.ip = some ip →
        (s.filterPasses p f ip = false → exec (.receiveFrame p f) s = .next (s.count 0x01000048 1))
        ∧ (s.filterPasses p f ip = true →
          let l := f.payload
          let len := leAt l 0x14 2
          let q := leAt l 1 1 % 64
          let good : Prop := leAt l 0 1 = 1 ∧ len ≤ 8192 ∧ 32 ≤ l.length ∧ ip.udpLength = 32 + len ∧ l.length = 32 + len
          (badForm ip = true → exec (.receiveFrame p f) s = .next (s.count 0x0100004C 1))
          ∧ (badForm ip = false → ¬ good → exec (.receiveFrame p f) s = .next (s.count 0x01000050 1))
          ∧ (badForm ip = false → good → leAt l 0x1C 4 ≠ payloadCrc (l.drop 32) →
              exec (.receiveFrame p f) s = .next (s.count 0x01000054 1))
          ∧ (badForm ip = false → good → leAt l 0x1C 4 = payloadCrc (l.drop 32) → s.split = true → q / 16 ≠ p.val →
              exec (.receiveFrame p f) s = .next (s.count 0x0100005C 1))
          ∧ (badForm ip = false → good → leAt l 0x1C 4 = payloadCrc (l.drop 32) → (s.split = true → q / 16 = p.val) →
              s.bootstrap p = false → leAt l 2 1 ≠ 0 → leAt l 2 1 ≠ 0x0D → bitOf (leAt l 4 2) 2 = false →
              bitOf (leAt l 4 2) 3 = false → leAt l 6 2 = s.epoch →
              let d := (BitVec.ofNat 32 (leAt l 8 4) - (s.hq q).expect).toNat
              let from_ : Option Peer := some ⟨f.srcMac, ip.v6, ip.src, ip.srcPort⟩
              let u := s.modHq q (fun h => { h with peer := from_ })
              (d = 0 → ∃ t k, exec (.receiveFrame p f) s = .next t ∧ t = { s with host := t.host }
                ∧ (t.hq q).expect = (s.hq q).expect + 1 ∧ (t.hq q).waiting = (s.hq q).waiting ++ [k]
                ∧ (t.hq q).active = (s.hq q).active ∧ (t.hq q).unacked = (s.hq q).unacked
                ∧ k.op.toNat = leAt l 2 1 ∧ k.queueByte.toNat = leAt l 1 1 ∧ k.order = s.host.order ∧ k.peer = from_
                ∧ k.cmd = ⟨Fin.ofNat 64 q, BitVec.ofNat 32 (leAt l 8 4), BitVec.ofNat 32 (leAt l 0x10 4),
                    BitVec.ofNat 16 (leAt l 4 2), BitVec.ofNat 32 (leAt l 0x18 4), l.drop 32⟩
                ∧ ∀ j, j ≠ q → t.hq j = s.hq j)
              ∧ ((1 ≤ d ∧ d ≤ 1023) ∨ 2 ^ 32 - 1024 ≤ d → exec (.receiveFrame p f) s = .next (u.sendAck q))
              ∧ (1024 ≤ d → d < 2 ^ 32 - 1024 → exec (.receiveFrame p f) s = .next (u.count 0x01000058 1)))))

/-- R53, R75, R88, R89, R102, R103, R106, R527. That a port that loses its link drops its waiting replies and the frame on its
wire, and keeps only TRACE frames, is the model's choice (log entry 65), and so is that no port is up before the host port has
trained (log entry 48). The queue has no aborted command still to complete. -/
def Obligations.LinkRows : Prop :=
  ∀ (s : State) (q : Fin 64) (p : Fin 4) (n : Word) (ev : Bool),
    (s.hostUp = true → (s.hq q).aborting = [] → ∃ t, exec (.ack q (BitVec.ofNat 16 s.epoch) n true) s = .next t
      ∧ t = { s with host := t.host } ∧ (∀ j, j ≠ q.val → t.hq j = s.hq j)
      ∧ (∀ c, c ∈ (t.hq q).unacked ↔ c ∈ (s.hq q).unacked ∧ 2 ^ 31 ≤ (n - c.seq).toNat))
    ∧ (∀ f, (s.hq q).ackFrom = some f →
        (f + s.fld 0x01000018 15 0 ≤ s.ticks → exec (.ackDelay q) s = .next (s.sendAck q))
        ∧ (s.ticks < f + s.fld 0x01000018 15 0 → exec (.ackDelay q) s = .next s))
    ∧ (∀ c, (s.hq q).unacked = [c] → (s.hport (s.queuePort q)).up = true → c.sentAt + c.interval ≤ s.ticks →
        (s.hq q).aborting = [] →
        let next := max (1000 * s.fld 0x01000014 15 0) (min (2 * c.interval) 3200000)
        (s.fld 0x01000014 19 16 ≤ c.resends → ∃ t, exec (.cplRto q) s = .next t ∧ (t.hq q).unacked = []
          ∧ t.regN 0x01000024 = min (2 ^ 32 - 1) (s.regN 0x01000024 + 1))
        ∧ (c.resends < s.fld 0x01000014 19 16 → ∃ t f, exec (.cplRto q) s = .next t
          ∧ (t.hq q).unacked = [{ c with sentAt := s.ticks, resends := c.resends + 1, interval := next }]
          ∧ (t.hport (s.queuePort q)).waiting = (s.hport (s.queuePort q)).waiting ++ [f]
          ∧ f.opcode = c.opcode ∧ f.status.toNat = c.status.code ∧ f.seq = c.seq ∧ f.tag = c.tag ∧ f.arg = c.cmdSeq
          ∧ f.payload = c.payload ∧ f.flags = 0x44))
    ∧ (s.streaming = true → ∀ f r rest, (if ev then s.host.event.recs else s.host.result.recs) = (f, r) :: rest →
        (∀ x ∈ (f, r) :: rest, x.2.length ≤ s.maxPayload s.streamPort none / 16 * 16) →
        f + s.fld 0x0100001C 15 0 ≤ s.ticks → ∃ t, exec (.streamFlush ev) s = .next t ∧ t = { s with host := t.host }
          ∧ (if ev then t.host.event.recs else t.host.result.recs) = []
          ∧ (if ev then t.host.result else t.host.event) = (if ev then s.host.result else s.host.event))
    ∧ (s.hostUp = true → (s.hport p).up = true → (s.hport p).free ≤ s.ticks → s.launchNext = none →
        ∀ f rest, (s.hport p).waiting = f :: rest → f.kind = .reply → (∀ x ∈ rest, x.kind = .reply) →
        ∃ t, exec (.frameEnd p) s = .next t ∧ t = { s with host := t.host } ∧ (t.hport p).wire = some f
          ∧ (t.hport p).waiting = rest ∧ (t.hport p).free = s.ticks + s.wireFrames f.wire
          ∧ ∀ j, j ≠ p.val → t.hport j = s.hport j)
    ∧ (s.portUsed p = true →
      (s.hostUp = true → (s.hport p).up = true → ∃ t, exec (.linkDown p) s = .next t ∧ t = { s with regs := t.regs, host := t.host }
        ∧ bitOf (t.regN 0x01000004) (8 + p) = true ∧ (t.hport p).up = false ∧ (t.hport p).downAt = s.ticks
        ∧ (t.hport p).wire = none ∧ (∀ f ∈ (t.hport p).waiting, f.kind = .trace)
        ∧ ∀ j, j ≠ p.val → t.hport j = s.hport j)
      ∧ (s.hostUp = false → exec (.linkDown p) s = .next s ∧ bitsOf s.linkWord 7 0 = 0)
      ∧ ((s.hport p).up = false → ∃ t u, exec (.linkUp p) s = .next t
        ∧ u = s.modPort p (fun x => { x with up := true, free := s.ticks })
        ∧ t = u.record 0x23 (leBytes 1 p ++ leBytes 8 (s.ticks - (s.hport p).downAt)) ∧ (u.hport p).up = true)
      ∧ ((s.hport p).up = false → s.fld 0x01000020 15 0 ≠ 0 → (s.mode = .ready ∨ s.mode = .run) →
          (s.hport p).downAt + 1000000 * s.fld 0x01000020 15 0 < s.ticks →
          ∃ t, exec (.linkLossSafe p) s = .next t ∧ t = s.enterSafe 0x07 (unitDetail (0x20 + p) 0) ∧ t.mode = .safe)
      ∧ (s.fld 0x01000020 15 0 = 0 → exec (.linkLossSafe p) s = .next s))

/-- R59, R95, R96, R107. Waveform slices, whose data goes through a port, are `WaveformPorts`. -/
def Obligations.WriteReadFill : Prop :=
  ∀ (s : State) (c : HostCmd) (t : Taken) (ecc : Ecc),
    let u := s.begin t
    let p := t.cmd.payload
    let a := t.cmd.arg.toNat
    (s.cfgMode = true → waveSlice a = none →
      ∀ op i ws fill, ((op = 1 ∧ i = Instr.write c ∧ fill = false ∧ p.length % 4 = 0 ∧ p.length ≤ 8192 ∧ ws = payloadWords p)
        ∨ (op = 3 ∧ i = Instr.fill c ∧ fill = true ∧ p.length = 8 ∧ leAt p 4 4 % 4 = 0 ∧ leAt p 4 4 ≤ 16777216
            ∧ ws = List.replicate (leAt p 4 4 / 4) (BitVec.ofNat 32 (leAt p 0 4)))) →
      ws ≠ [] → s.begins op c t →
      (∀ st b, u.writeRefused false fill a ws = some (st, b) →
        exec i s = .next (u.complete t st (leBytes 4 b)))
      ∧ (u.writeRefused false fill a ws = none →
        let done (x : State) : State := ((x.settled t).applyWords false a ws).complete t .ok []
        u.settled t = u ∧ exec i s = .next ((done u).afterWrite done u.split a ws)))
    ∧ (s.cfgMode = true → s.begins 1 c t → (p.length % 4 ≠ 0 ∨ 8192 < p.length) →
        exec (.write c) s = .next (u.complete t .lengthRefused []))
    ∧ (s.begins 2 c t → s.activeCmd 2 c = none → p.length = 4 → leAt p 0 4 ≠ 0 → leAt p 0 4 % 4 = 0 →
        leAt p 0 4 ≤ u.maxPayload (u.queuePort c.queue) t.peer →
        (∀ b, u.readRefused false a (leAt p 0 4 / 4) = some b →
          exec (.read c ecc) s = .next (u.complete t .addrRefused (leBytes 4 b)))
        ∧ (u.readRefused false a (leAt p 0 4 / 4) = none → waveSlice a = none →
            (eccProtected a = true → ecc = .uncorrectable →
              exec (.read c ecc) s = .next (u.complete t .eccUncorr []))
            ∧ (eccProtected a = false ∨ ecc = .clean →
              (u.readWords false a (leAt p 0 4 / 4)).1.length = leAt p 0 4
              ∧ exec (.read c ecc) s = .next ((u.readWords false a (leAt p 0 4 / 4)).2.complete t .ok
                  (u.readWords false a (leAt p 0 4 / 4)).1))))

/-- R107, R261, R262. -/
def Obligations.WaveformPorts : Prop :=
  ∀ (s : State) (c : HostCmd) (t : Taken) (cl : Fin 16),
    let a := t.cmd.arg.toNat
    let p := t.cmd.payload
    let u := s.begin t
    (s.cfgMode = true → s.begins 1 c t → p ≠ [] → p.length % 4 = 0 → p.length ≤ 8192 → waveSlice a = some cl.val →
      u.writeRefused false false a (payloadWords p) = none →
      ∃ v j, exec (.write c) s = .next v ∧ v = { u with clusters := v.clusters } ∧ (v.cl cl).port = (s.cl cl).port ++ [j]
        ∧ j.kind = .write a ∧ j.left = (payloadWords p).flatMap (fun w => leBytes 4 w.toNat) ∧ j.from_ = s.frame + 1
        ∧ j.cmd = some t)
    ∧ (∀ b l k rest begun dropped from_, (s.cl cl).port = ⟨.write b, l, from_, some k, begun, dropped, false⟩ :: rest →
      from_ ≤ s.frame →
      ∃ v, exec (.writePortStore cl) s = .next v
        ∧ (∀ x, x < b ∨ b + min 256 l.length ≤ x → v.byteAt x = s.byteAt x)
        ∧ (∀ n, n < min 256 l.length → v.byteAt (b + n) = l.getD n 0)
        ∧ v = { s with mem := v.mem, clusters := v.clusters, host := v.host }
        ∧ (256 < l.length → v.host = s.host
            ∧ (v.cl cl).port = ⟨.write (b + 256), l.drop 256, from_, some k, true, dropped, false⟩ :: rest)
        ∧ (l.length ≤ 256 → s.answers v k .ok [] ∧ (v.cl cl).port.length = rest.length))
    ∧ (∀ k b left got from_ rest, s.activeCmd 2 c = some k → waveSlice k.cmd.arg.toNat = some cl.val →
      (s.cl cl).reads = ⟨k, b, left, got, from_⟩ :: rest → from_ ≤ s.frame →
      ∃ v, exec (.read c .clean) s = .next v ∧ v = { s with clusters := v.clusters, host := v.host }
        ∧ (384 < left → v.host = s.host ∧ (v.cl cl).reads = ⟨k, b + 384, left - 384, got ++ s.bytesAt b 384, from_⟩ :: rest)
        ∧ (left ≤ 384 → s.answers v k .ok (got ++ s.bytesAt b left) ∧ (v.cl cl).reads.length = rest.length))

/-- R95, R97, R113, R262, R276. -/
def Obligations.StreamBlocksAndFences : Prop :=
  ∀ (s : State) (c : HostCmd) (t : Taken) (cl : Fin 16),
    let p := t.cmd.payload
    let u := s.begin t
    (s.mode ≠ .boot → s.begins 4 c t → t.cmd.arg = BitVec.ofNat 32 cl → p ≠ [] → p.length % 16 = 0 → p.length ≤ 8192 →
      s.ringSize cl ≠ 0 →
      ∃ v, exec (.streamBlock c) s = .next v ∧ v = { u with clusters := v.clusters } ∧ (∀ k, k ≠ cl.val → v.cl k = s.cl k)
        ∧ (v.cl cl).port = (s.cl cl).port ++ [⟨.stream, p, s.frame + 1, some t, false, false,
            !s.ringRoom cl (s.cl cl).port p.length⟩])
    ∧ (∃ v, exec (.streamBlockRoom cl) s = .next v ∧ v = { s with clusters := v.clusters }
        ∧ (∀ k, k ≠ cl.val → v.cl k = s.cl k) ∧ (v.cl cl).port.length = (s.cl cl).port.length
        ∧ ∀ before j rest, (s.cl cl).port = before ++ j :: rest → (∀ x ∈ before, x.held = false) →
          ∃ after, (v.cl cl).port = before ++ { j with held := j.held && !s.ringRoom cl before j.left.length } :: after)
    ∧ (∀ j rest, (s.cl cl).port = j :: rest → j.held = true → exec (.writePortStore cl) s = .next s)
    ∧ (s.mode ≠ .boot → s.begins 6 c t → p = [] → t.cmd.arg = 0 →
        (u.fenceMet t = true → exec (.fence c) s = .next (u.complete t .ok []))
        ∧ (u.fenceMet t = false → exec (.fence c) s = .next u))
    ∧ (∀ k rest, (s.hq c.queue).active = k :: rest → k.op = 6 →
        (s.fenceMet k = true → exec (.fenceComplete c.queue) s = .next (s.complete k .ok []))
        ∧ (s.fenceMet k = false → exec (.fenceComplete c.queue) s = .next s))
    ∧ ∀ k, k.cmd.flags.getLsbD 1 = false → (s.fenceMet k = true ↔
        ∀ h, (k.cmd.queue.val, h) ∈ s.host.queues → ∀ x ∈ h.active ++ h.waiting ++ h.aborting, k.order ≤ x.order)

/-- R107, R121 to R123; the commit of one group is shown on FLX_PRED (0x05), whose commit has no further effect. -/
def Obligations.CommitsTakeEffect : Prop :=
  ∀ (s : State) (c : HostCmd) (t : Taken),
    let p := t.cmd.payload
    let u := s.begin t
    let groups := payloadWords (p.drop 8)
    let f := leAt p 0 8
    (s.mode ≠ .boot → s.begins 5 c t → 12 ≤ p.length → p.length % 4 = 0 →
      let listed : Prop := ∀ g ∈ groups, groupListed g.toNat = true
      (∀ e, listed → (t.cmd.arg = 0 ∧ e = s.frame + 1 ∨ (t.cmd.arg = 1 ∧ f ≤ s.frame ∧ e = s.frame + 1)
          ∨ (t.cmd.arg = 1 ∧ s.frame < f ∧ f ≤ s.frame + 2 ^ 32 ∧ e = f)
          ∨ (t.cmd.arg = 2 ∧ s.boundaryFrom (s.frame + 1) = some e)) →
        ∃ v k, exec (.commit c) s = .next v ∧ v = { u with commits := s.commits ++ [k] } ∧ k.frame = e ∧ k.groups = groups
          ∧ k.host = some t)
      ∧ (¬ listed ∨ 2 < t.cmd.arg.toNat ∨ (t.cmd.arg = 1 ∧ s.frame + 2 ^ 32 < f) ∨ (t.cmd.arg = 2 ∧ s.roundLen = 0) →
          exec (.commit c) s = .next (u.complete t .rangeRefused [])))
    ∧ (∀ (n : Fin 512) (e order : Nat), s.commits = [⟨e, [BitVec.ofNat 32 (0x05000000 + n)], some t, 0, order⟩] →
        e ≤ s.frame → ∃ v, exec .groupCommit s = .next v ∧ s.answers v t .ok (leBytes 8 s.frame) ∧ v.commits = []
          ∧ v.reg (aFlx n 0x14) = (if s.written (aFlx n 0x14) then s.shadowWord (aFlx n 0x14) else s.reg (aFlx n 0x14))
          ∧ (∀ a, a ≠ aFlx n 0x14 → v.reg a = s.reg a)
          ∧ v = { s with commits := [], host := v.host, regs := v.regs, dirty := v.dirty })
    ∧ ((∀ k ∈ s.commits, s.frame < k.frame) → exec .groupCommit s = .next s)

/-- R95, R100, R104, R114, R136, R368, R369, R531, R532. That a STREAM_RESEND in SAFE that meets an uncorrectable error completes
with ECC_UNCORR is the model's choice (log entry 68). -/
def Obligations.RecoveryCommands : Prop :=
  ∀ (s : State) (c : HostCmd) (t : Taken) (sig : Bool) (op qb : Byte),
    let p := t.cmd.payload
    let u := s.begin t
    (s.mode = .run ∨ s.mode = .ready → s.begins 0xA c t → 12 ≤ p.length → p.length % 4 = 0 → t.cmd.arg = 0 →
      s.roundLen ≠ 0 → leAt p 0 8 ≤ s.roundAt s.frame + 2 ^ 20 →
      (u.pauliFits t = true → exec (.pauliUpdate c) s = .next (u.holdPauli t))
      ∧ (u.pauliFits t = false → exec (.pauliUpdate c) s = .next u))
    ∧ (s.begins 0xB c t → s.activeCmd 0xB c = none → p.length = 4 → 1 ≤ leAt p 0 4 → leAt p 0 4 ≤ 128 →
      t.cmd.arg.toNat + leAt p 0 4 ≤ 9216 → 64 * leAt p 0 4 ≤ u.maxPayload (u.queuePort t.cmd.queue) t.peer →
      (leAt p 0 4 = 1 → ∃ v, exec (.recorderRead c) s = .next v
        ∧ s.answers v t .ok (s.bytesAt (aRec t.cmd.arg.toNat) 64) ∧ v = { s with host := v.host })
      ∧ (1 < leAt p 0 4 → ∃ v, exec (.recorderRead c) s = .next v ∧ v = { s with host := v.host }
        ∧ ⟨t, t.cmd.arg.toNat + 1, leAt p 0 4 - 1, s.bytesAt (aRec t.cmd.arg.toNat) 64, s.frame + 1⟩ ∈ v.host.records))
    ∧ (s.mode ≠ .boot → s.begins 0xC c t →
        (p.length ≠ 0 → p.length ≠ 120 → exec (.recorderClear c sig) s = .next (u.complete t .lengthRefused []))
        ∧ (p.length = 120 → t.cmd.arg ≠ 0 → exec (.recorderClear c sig) s = .next (u.complete t .rangeRefused []))
        ∧ (p.length = 0 ∨ (p.length = 120 ∧ t.cmd.arg = 0) → exec (.recorderClear c sig) s = .next (u.clearAttempt t sig)))
    ∧ (s.mode ≠ .boot → s.begins 0xD c t → p = [] → t.cmd.arg = 0 →
        (s.mode ≠ .safe → ∃ v, exec (.recover c) s = .next v ∧ s.answers v t .modeRefused [])
        ∧ (s.mode = .safe → u.recoverBad = none → exec (.recover c) s
            = .next { u with host := { u.host with recover := some t } }))
    ∧ (s.host.recover = some t → s.mode = .safe → s.host.recoverAt ≠ s.frame →
        (s.allDone none t.order = true → t ∈ (s.hq t.cmd.queue).active → ∃ v, exec .recoverEffect s = .next v
          ∧ v = s.recovered t ∧ v.mode = .ready
          ∧ v.epoch = (s.epoch + 1) % 65536 ∧ v.host.recover = none ∧ v.host.replay = [] ∧ v.regN 0x64 = 0
          ∧ (∀ q, q < 128 → v.seq q = { Seq.init with lastNotify := (s.seq q).lastNotify }) ∧ ∀ a, v.byteAt a = s.byteAt a)
        ∧ (s.allDone none t.order = true → t ∉ (s.hq t.cmd.queue).active → s.canStart t = true → t.op = 0xD →
            t.queueByte.toNat < 64 → p = [] → t.cmd.arg = 0 → u.recoverBad = none →
            exec .recoverEffect s = .next (u.recovered t))
        ∧ (s.allDone none t.order = false → exec .recoverEffect s = .next s))
    ∧ (s.host.recover = some t → s.host.recoverAt = s.frame ∨ s.mode ≠ .safe → exec .recoverEffect s = .next s)
    ∧ (s.mode ≠ .boot → s.begins 0xE c t → p.length = 8 → leAt p 4 4 = 1 → t.cmd.arg = 0x80 →
        2 ^ 31 ≤ (BitVec.ofNat 32 (leAt p 0 4) - s.host.result.next).toNat →
        (∀ f, u.replayed 0x80 (BitVec.ofNat 32 (leAt p 0 4)) = some f →
          exec (.streamResend c .clean) s = .next ((u.resendFrames [f]).complete t .ok [])
          ∧ (s.mode ≠ .safe → exec (.streamResend c .uncorrectable) s = .next (u.eccFault none 10 (leAt p 0 4)))
          ∧ (s.mode = .safe → exec (.streamResend c .uncorrectable) s
              = .next ((u.eccFault none 10 (leAt p 0 4)).complete t .eccUncorr [])))
        ∧ (u.replayed 0x80 (BitVec.ofNat 32 (leAt p 0 4)) = none → ∃ v pl, exec (.streamResend c .clean) s = .next v
          ∧ s.answers v t .resendExpired pl))
    ∧ (s.hostUp = true → s.waitingCmd op c = some t → t.op = op → s.myTurn t = true →
        t.queueByte = (qb &&& 0xC0 ||| BitVec.ofNat 8 c.queue) → (0xE < op.toNat ∨ (64 ≤ t.queueByte.toNat ∧ op ≠ 0)) →
        ∃ v, exec (.opcodeRefused c op qb) s = .next v ∧ s.answers v t .opcodeRefused [op, t.queueByte, 0, 0]
          ∧ v = { s with host := v.host })

/-- R42, R48, R49, R50, R51, R56, R66, R67, R517, R527. What a register reads where the spec gives it no reset value is
the model's choice (log entries 5 and 6), and so is which registers NV may give another reset value (log entry 7). A device that still has RESET_N released boots again at once from WDOG. -/
def Obligations.ResetEntry : Prop :=
  ∀ (s : State),
    let kept (t : State) : Prop :=
      (∀ a, keptAtReset a = false → a ∉ [0x03000000, 0x03000400, 0x03000410, 0x03000414, 0x03000C04] →
        (∀ b x y, s.bar.write = some (.store b x y) → a ≠ aBias b 0x30) → (∀ p ∈ s.bar.nvReset, p.1 ≠ a) → t.reg a = resetWord a)
      ∧ (∀ p : Nat × Word, s.bar.nvReset = [p] → keptAtReset p.1 = false →
        p.1 ∉ [0x03000000, 0x03000400, 0x03000410, 0x03000414, 0x03000C04] → (∀ b x y, s.bar.write = some (.store b x y) → p.1 ≠ aBias b 0x30) →
        t.reg p.1 = p.2)
      ∧ (∀ a, clearedByte a = false → t.byteAt a = s.byteAt a) ∧ (∀ a, clearedByte a = true → t.byteAt a = 0)
      ∧ (∀ b, b < 64 → (t.bias b).live = recCode ((s.bias b).shown s.ticks)
        ∧ (t.bias b).range = recRange ((s.bias b).shown s.ticks)
        ∧ ∀ k, (t.bias b).shown k = (s.bias b).shown s.ticks)
      ∧ t.pending = s.pending
    (s.power.aon = true → s.power.resetN = true → ∃ t, exec .resetNLow s = .next t ∧ t.mode = .reset
      ∧ bitOf (t.regN 0x48) 1 = true ∧ t.power.resetN = false ∧ kept t)
    ∧ (s.power.aon = true → s.power.rails = true → ∃ t, exec .railOutOfWindow s = .next t ∧ t.mode = .reset
      ∧ bitOf (t.regN 0x48) 2 = true ∧ t.power.rails = false ∧ t.power.mustCycle = true ∧ kept t)
    ∧ (s.power.aon = false → ∃ t, exec .alwaysOnRailValid s = .next t ∧ t.mode = .reset ∧ t.power.aon = true
      ∧ t.regN 0x48 = 1 ∧ t.regN 0x03000824 = (s.regN 0x03000824 + 1) % 2 ^ 32 ∧ kept t)
    ∧ (s.mode ≠ .reset → 2 ≤ s.boot.step → s.power.aon = true → s.power.rails = true → s.power.resetN = true →
      s.power.refclk = true → s.power.mustCycle = false → s.fld 0x03000000 1 0 ≠ 3 →
      ∃ t, exec .wdog s = .next t ∧ t.mode = .boot ∧ t.frame = 0 ∧ bitOf (t.regN 0x48) 4 = true
        ∧ (∀ q, t.seq q = .init) ∧ (∀ a, clearedByte a = false → t.byteAt a = s.byteAt a)
        ∧ (∀ b, b < 64 → (t.bias b).live = recCode ((s.bias b).shown s.ticks)
          ∧ (t.bias b).range = recRange ((s.bias b).shown s.ticks)))
    ∧ (s.power.aon = true → ∃ t, exec .alwaysOnRailFall s = .next t ∧ t.mode = .reset ∧ t.power.aon = false
      ∧ t.power.rails = false ∧ (∀ b, b < 64 → (t.bias b).driven = false) ∧ t.pending = s.pending)

/-- R19, R42, R47 to R49, R493, R494, R509, R514, R529, R548. In a frame that began in SAFE a fault is only
recorded (R44, R134). No frame is counted in RESET, so that an hour that ends there ends by its command is the model's choice
(log entry 45). -/
def Obligations.BootBegins : Prop :=
  ∀ (s : State) (bad : BitVec 128) (b : Fin 64) (spi : Bool),
    let cool : Prop := s.fld 0x03000000 1 0 ≠ 3
    let booted (t : State) : Prop := t.mode = .boot ∧ t.frame = 0 ∧ t.boot.step = 1 ∧ (t.bias b) = s.bias b
      ∧ t.regN (aBias b 4) = (s.bias b).live.toNat ∧ t.fld (aBias b 0) 1 0 = (s.bias b).range.toNat
    (s.mode = .reset → s.power.aon = true → s.power.resetN = false →
      (s.power.rails = true → s.power.refclk = true → cool →
        ∃ t, exec (.resetNRelease spi) s = .next t ∧ booted t ∧ t.power.mustCycle = false ∧ t.boot.loading = spi)
      ∧ (s.power.rails = false ∨ s.power.refclk = false → exec (.resetNRelease spi) s
          = .next { s with power := { s.power with resetN := true } }))
    ∧ (s.mode = .reset → s.power.aon = true → s.power.rails = false →
      (s.power.resetN = true → s.power.refclk = true → s.power.mustCycle = false → cool →
        ∃ t, exec .railValid s = .next t ∧ booted t)
      ∧ (s.power.resetN = false ∨ s.power.refclk = false ∨ s.power.mustCycle = true →
          exec .railValid s = .next { s with power := { s.power with rails := true } }))
    ∧ (s.power.refclk = false →
      (s.mode = .reset → s.power.aon = true → s.power.rails = true → s.power.resetN = true → s.power.mustCycle = false →
        cool → ∃ t, exec .refclkReturn s = .next t ∧ booted t)
      ∧ (s.mode = .ready → s.boot.step = 5 → ∃ t, exec .refclkReturn s = .next t ∧ t.power.refclk = true
          ∧ t.fld 0x11C 0 0 = 1 ∧ t.mode = .ready))
    ∧ (s.power.refclk = true →
      (s.mode = .boot → ∃ t, exec .refclkLoss s = .next t ∧ t.mode = .boot ∧ t.fld 0x11C 0 0 = 0
          ∧ t.power.refclk = false)
      ∧ (s.mode = .ready ∨ s.mode = .run ∨ s.mode = .sleep → ∃ t, exec .refclkLoss s = .next t ∧ t.mode = .safe
          ∧ t.fld 0x11C 0 0 = 0 ∧ ((∀ x, s.base = some x → x.mode ≠ .safe) → t.fld 0x40 15 8 = 0x07)))
    ∧ (s.power.aon = true → (s.bias b).driven = false →
      ∃ t, exec (.biasPwrupLoad bad) s = .next t ∧ (t.bias b).driven = true
        ∧ (bad.getLsbD b = false → (t.bias b).live = (s.bias b).nvPwrup.setWidth 20
            ∧ (t.bias b).range = ((s.bias b).nvPwrup >>> 20).setWidth 2)
        ∧ (bad.getLsbD b = true → (t.bias b).live = 0 ∧ (t.bias b).range = 0 ∧ bitOf (t.regN (aBias b 0x20)) 4 = true))
    ∧ (s.power.aon = true → s.mode = .reset ∨ hourFrames ≤ s.bar.railFrames →
        ∃ t, exec .operatingHoursUpdate s = .next t
        ∧ t = { s with regs := t.regs, bar := { s.bar with railFrames := s.bar.railFrames - hourFrames } }
        ∧ t.regN 0x03000820 = (s.regN 0x03000820 + 1) % 2 ^ 32)
    ∧ (s.power.aon = false ∨ (s.mode ≠ .reset ∧ s.bar.railFrames < hourFrames) → exec .operatingHoursUpdate s = .next s)

/-- R42, R65, R426, R513 to R515, R519. The place of the patches in NV is the model's choice (log entry 7), and so are the
ascending order by LEVEL and the rise of the minimum firmware level by an SPI image (log entry 23). A failure works its frame
again from the boundary (log entry 25), which held the same BOOT. -/
def Obligations.BootEnds : Prop :=
  ∀ (s : State) (im : Image), s.mode = .boot →
    let passes : Prop := im.magic = 0x46514657 ∧ im.format = 1 ∧ im.stepping = 0xB1 ∧ im.sigOk = true ∧ im.tagOk = true
      ∧ s.bar.minFw ≤ im.level
    let b := s.undo id
    let same : Prop := b.mode = .boot ∧ b.boot = s.boot ∧ b.bar = s.bar
    (s.boot.step = 1 → s.frame < 10000000 ∨ s.boot.loading = true →
      (passes → s.patches 1024 0x1200000 = [] → ∃ t, exec (.bootLoad im) s = .next t ∧ t.mode = .boot
        ∧ t.boot.step = 4 ∧ t.reg 0x03000808 = im.level ∧ t.fld 0x0300080C 1 0 = 2 ∧ t.hostUp = true
        ∧ im.level ≤ t.bar.minFw ∧ ∀ a, t.byteAt a = s.byteAt a)
      ∧ (passes → same → ∀ p rest, sortBy patchLevel (s.patches 1024 0x1200000) = p :: rest →
          (containerOk 0x46514D50 p = false ∨ BitVec.ofNat 32 (patchLevel p) < s.bar.minPatch) →
          ∃ t, exec (.bootLoad im) s = .next t ∧ t.mode = .safe ∧ t.hostUp = true ∧ t.fld 0x40 15 8 = 0x01)
      ∧ (¬ passes → same → ∃ t, exec (.bootLoad im) s = .next t ∧ t.mode = .safe ∧ t.hostUp = false
        ∧ t.fld 0x40 5 5 = 1 ∧ t.fld 0x40 15 8 = 0x01))
    ∧ (s.boot.step ≠ 1 ∨ (10000000 ≤ s.frame ∧ s.boot.loading = false) → exec (.bootLoad im) s = .next s)
    ∧ (s.boot.step = 4 → s.power.refclk = true →
      (∃ t, exec (.bootDone true) s = .next t ∧ t.mode = .ready ∧ t.boot.step = 5 ∧ t.fld 0x11C 0 0 = 1
        ∧ t.power.converters = true ∧ t.frame = s.frame ∧ (∀ a, t.byteAt a = s.byteAt a) ∧ t.seqs = s.seqs
        ∧ t.rdsps = s.rdsps)
      ∧ ∃ t, exec (.bootDone false) s = .next t ∧ t.mode = .safe ∧ (b.mode ≠ .safe → t.fld 0x40 15 8 = 0x07))
    ∧ (s.power.refclk = false ∨ s.boot.step ≠ 4 → ∀ ok, exec (.bootDone ok) s = .next s)

/-- R42, R43, R60 to R62, R65, R66, R99, R107. A SAFE request works its frame again from the boundary, with only itself
done (log entry 25); before the frame has begun there is nothing to undo. -/
def Obligations.ModeRequests : Prop :=
  ∀ (s : State) (c : HostCmd) (t : Taken) (src : Src),
    let u := s.begin t
    let asks (n : Nat) : Prop := s.begins 9 c t ∧ t.cmd.arg = BitVec.ofNat 32 n ∧ t.cmd.payload = [] ∧ s.mode ≠ .boot
    (asks 1 → s.mode = .ready → exec (.modeSleep (.modeCmd c)) s
        = .next { u with modes := { s.modes with sleepAt := some (s.frame + 1), sleepCmd := some t } })
    ∧ (asks 2 → s.mode = .sleep → s.modes.wakeAt = none → exec (.modeWake (.modeCmd c)) s
        = .next { u with modes := { s.modes with wakeAt := some (s.frame + 350000), wakers := s.modes.wakers ++ [t] },
                         power := { s.power with converters := true } })
    ∧ (asks 3 → s.mode ≠ .safe → ∃ v, exec (.modeSafe (.modeCmd c)) s = .next v ∧ v.mode = .safe
        ∧ (s.base = none → v = (u.complete t .ok (leBytes 8 s.frame)).safeEntry 0x06 (unitDetail 0x44 0)))
    ∧ (asks 1 → s.mode ≠ .ready → exec (.modeSleep (.modeCmd c)) s = .next (u.complete t .modeRefused []))
    ∧ (asks 2 → s.mode ≠ .sleep → exec (.modeWake (.modeCmd c)) s = .next (u.complete t .modeRefused []))
    ∧ (asks 3 → s.mode = .safe → exec (.modeSafe (.modeCmd c)) s = .next (u.complete t .modeRefused []))
    ∧ (s.accepts src 0x44 1 → ∃ v, exec (.modeSleep (.reg src)) s = .next v ∧ v.modes.sleepAt = some (s.frame + 1)
        ∧ v.mode = s.mode)
    ∧ (s.accepts src 0x44 2 → s.modes.wakeAt = none → ∃ v, exec (.modeWake (.reg src)) s = .next v
        ∧ v.modes.wakeAt = some (s.frame + 350000) ∧ v.power.converters = true ∧ v.mode = s.mode)
    ∧ (s.accepts src 0x44 3 → ∃ v, exec (.modeSafe (.reg src)) s = .next v ∧ v.mode = .safe)
    ∧ (s.accepts .spi 0x44 4 → s.power.aon = true → s.power.rails = true → s.power.resetN = true →
        s.power.refclk = true → s.power.mustCycle = false → s.fld 0x03000000 1 0 ≠ 3 →
        ∃ v, exec (.reboot .spi) s = .next v ∧ v.mode = .boot ∧ v.frame = 0 ∧ bitOf (v.regN 0x48) 3 = true
          ∧ v.pending = s.pending)
    ∧ (s.cfgMode = true → s.begins 1 c t → t.cmd.arg = 0x44 → t.cmd.payload = leBytes 4 4 →
        ∃ v pl, exec (.reboot (.abral c)) s = .next v ∧ s.answers v t .modeRefused pl ∧ v = { s with host := v.host })

/-- R44, R60, R61, R63, R66, R107, R357, R371, R539. That an enable set during a wake does nothing then is the model's choice
(log entry 69). -/
def Obligations.SleepAndWake : Prop :=
  ∀ (s : State),
    (∀ f, s.modes.sleepAt = some f → f ≤ s.frame → s.mode = .ready →
        ∃ v, exec .sleepEntry s = .next v ∧ v.mode = .sleep ∧ v.modes.sleepAt = none ∧ v.modes.safeFrame = s.ticks
          ∧ v.power.converters = false ∧ v.perc.held = [] ∧ v.frame = s.frame ∧ v.mem = s.mem ∧ v.tqueues = s.tqueues
          ∧ ∀ t, s.modes.sleepCmd = some t → s.answers v t .ok (leBytes 8 s.frame))
    ∧ (∀ f, s.modes.sleepAt = some f → f ≤ s.frame → s.mode ≠ .ready →
        ∃ v, exec .sleepEntry s = .next v ∧ v.mode = s.mode ∧ v.modes.sleepAt = none
          ∧ ∀ t, s.modes.sleepCmd = some t → s.answers v t .aborted [])
    ∧ ((∀ f, s.modes.sleepAt = some f → s.frame < f) → exec .sleepEntry s = .next s)
    ∧ (s.mode = .sleep → s.fld 0x4C 0 0 = 1 → s.modes.wakeAt = none → s.reg64 0x50 ≤ s.frame →
        ∃ v, exec .wakeAt s = .next v ∧ v.modes.wakeAt = some (s.frame + 350000) ∧ v.fld 0x4C 0 0 = 0
          ∧ v.power.converters = true ∧ v.mode = .sleep)
    ∧ (∀ f, s.mode = .sleep → s.fld 0x4C 0 0 = 1 → s.reg64 0x50 ≤ s.frame → s.modes.wakeAt = some f →
        (f = s.frame + 350000 → ∃ v, exec .wakeAt s = .next v ∧ v = { s with regs := v.regs } ∧ v.fld 0x4C 0 0 = 0
          ∧ ∀ a, a ≠ 0x4C → v.reg a = s.reg a)
        ∧ (f ≠ s.frame + 350000 → exec .wakeAt s = .next s))
    ∧ (s.mode ≠ .sleep ∨ s.fld 0x4C 0 0 = 0 ∨ s.frame < s.reg64 0x50 → exec .wakeAt s = .next s)
    ∧ (∀ f, s.modes.wakeAt = some f → f ≤ s.frame →
        ∃ v, exec .wakeComplete s = .next v ∧ v.mode = .ready ∧ v.modes.wakeAt = none ∧ v.modes.wakers = []
          ∧ v.perc.prev = [] ∧ v.perc.hist = [] ∧ v.mem = s.mem ∧ v.frame = s.frame
          ∧ ∀ t, s.modes.wakers = [t] → s.answers v t .ok (leBytes 8 s.frame))
    ∧ ((∀ f, s.modes.wakeAt = some f → s.frame < f) → exec .wakeComplete s = .next s)

/-- R43, R44, R98, R144, R509, R563: a START found outside READY at its start frame completes with MODE_REFUSED. That one in a
frame whose mode has changed already does is the model's choice (log entry 24). -/
def Obligations.RunBegins : Prop :=
  ∀ (s : State) (c : HostCmd) (t : Taken),
    let u := s.begin t
    let f := leAt t.cmd.payload 0 8
    (s.begins 7 c t → s.mode ≠ .boot → t.cmd.payload.length = 8 → t.cmd.arg = 0 → s.fld 0x04000010 0 0 = 0 →
      s.sync.reloadAt = none →
      (s.mode = .ready → s.modes.shutdownAt = none → s.frame + 64 ≤ f → exec (.start c) s
        = .next { u with modes := { s.modes with starts := s.modes.starts ++ [⟨f, t⟩] } })
      ∧ (s.mode = .ready → s.modes.shutdownAt = none → f < s.frame + 64 → exec (.start c) s = .next (u.complete t .lateStart []))
      ∧ (s.mode ≠ .ready ∨ s.modes.shutdownAt ≠ none → exec (.start c) s = .next (u.complete t .modeRefused [])))
    ∧ (∀ g, s.modes.starts = [⟨g, t⟩] →
      (s.frame < g → exec .startFrame s = .next s)
      ∧ (g ≤ s.frame → s.mode ≠ .ready ∨ s.modes.moved = some s.frame → ∃ v, exec .startFrame s = .next v
          ∧ v.mode = s.mode ∧ v.modes.starts = [] ∧ s.answers v t .modeRefused [])
      ∧ (g ≤ s.frame → s.mode = .ready → s.modes.moved ≠ some s.frame → ∃ v, exec .startFrame s = .next v
          ∧ v.mode = .run ∧ v.modes.starts = [] ∧ s.answers v t .ok (leBytes 8 g)
          ∧ (∀ q, q < 128 → s.fld (aSeq q 0) 0 0 = 1 → s.contained (q / 8) = false →
              (v.seq q).pc = BitVec.ofNat 16 (s.fld (aSeq q 4) 15 0)
              ∧ (v.seq q).tl = BitVec.ofNat 64 (s.frame + 64) ∧ (∀ k, (v.seq q).get k = 0) ∧ (∀ k, (v.seq q).getT k = 0)
              ∧ (v.seq q).stack = [] ∧ (v.seq q).z = false ∧ (v.seq q).n = false ∧ (v.seq q).c = false
              ∧ (v.seq q).nextIssue = s.frame ∧ v.seqReady q = true)
          ∧ (∀ q, q < 128 → s.fld (aSeq q 0) 0 0 = 0 → v.seq q = (s.seq q).halted ∧ v.seqReady q = false)))

/-- R43, R98, R509. -/
def Obligations.StopIsTaken : Prop :=
  ∀ (s : State) (c : HostCmd) (t : Taken), s.begins 8 c t → s.mode ≠ .boot →
    let u := s.begin t
    let l := t.cmd.payload.length
    (l = 8 → t.cmd.arg = 0 → s.mode = .run → s.modes.shutdownAt = none → exec (.stop c) s
        = .next { u with modes := { s.modes with
            stops := s.modes.stops ++ [⟨max (leAt t.cmd.payload 0 8) (s.frame + 64), t⟩] } })
    ∧ (l = 8 → t.cmd.arg = 0 → s.mode ≠ .run ∨ s.modes.shutdownAt ≠ none →
        exec (.stop c) s = .next (u.complete t .modeRefused []))
    ∧ (l = 8 → t.cmd.arg ≠ 0 → exec (.stop c) s = .next (u.complete t .rangeRefused []))
    ∧ (l ≠ 8 → exec (.stop c) s = .next (u.complete t .lengthRefused []))

/-- R42 to R45, R98, R145, R174, R414, R435, R563. That a STOP in a frame whose mode has changed already completes with
MODE_REFUSED is the model's choice (log entry 24). -/
def Obligations.RunEnds : Prop :=
  ∀ (s : State) (t : Taken) (g : Nat), s.modes.stops = [⟨g, t⟩] →
    (s.frame < g → exec .stopFrame s = .next s)
    ∧ (g ≤ s.frame → s.mode = .run → s.modes.moved ≠ some s.frame → ∃ v, exec .stopFrame s = .next v
        ∧ v.mode = .ready ∧ v.modes.stops = [] ∧ v.modes.moved = some s.frame ∧ s.answers v t .ok (leBytes 8 g)
        ∧ (∀ q, q < 128 → v.seq q = { (s.seq q).halted with stamps := (v.seq q).stamps } ∧ v.seqReady q = false)
        ∧ (s.mes = [] → ∀ q, (v.seq q).stamps = (s.seq q).stamps)
        ∧ (∀ k e, (e ∈ (v.tq k).held → e ∈ (s.tq k).held ∧ e.t < s.frame)
            ∧ (e ∈ (v.tq k).flight → e ∈ (s.tq k).flight ∧ e.t < s.frame))
        ∧ (∀ k e, e.tentative = false → e.t < s.frame → (e ∈ (s.tq k).held → e ∈ (v.tq k).held)
            ∧ (e ∈ (s.tq k).flight → e ∈ (v.tq k).flight))
        ∧ (s.mes = [] → ∀ k, v.tq k = ⟨(s.tq k).flight.filter (fun e => decide (e.t < s.frame)),
            (s.tq k).held.filter (fun e => decide (e.t < s.frame))⟩)
        ∧ (∀ k, k ∈ v.commits ↔ k ∈ s.commits ∧ (k.host.isSome = true ∨ k.frame < s.frame))
        ∧ (∀ c, c < 16 → (∃ x ∈ (s.trk c).shots, x.stretch ≠ 5) → bitOf (v.regN (aCl c 0x2004)) 1 = true)
        ∧ (∀ a, (∀ c, c < 16 → a = aCl c 0x2004 ∨ a = aCl c 0x200C → (s.trk c).shots = []) → v.reg a = s.reg a)
        ∧ v.mem = s.mem ∧ v.dbits = s.dbits ∧ v.frame = s.frame)
    ∧ (g ≤ s.frame → s.mode ≠ .run ∨ s.modes.moved = some s.frame → ∃ v, exec .stopFrame s = .next v
        ∧ v.mode = s.mode ∧ v.modes.stops = [] ∧ s.answers v t .modeRefused [] ∧ v.seqs = s.seqs ∧ v.tqueues = s.tqueues)

/-- R57, R127 to R134, R495. `b` is the state at the boundary of the frame (log entry 25). -/
def Obligations.SafeEntry : Prop :=
  ∀ (s : State) (cause : Nat) (detail : List Byte), cause < 256 →
    ((s.base = none → s.undo id = s) ∧ ∀ x, s.base = some x → (s.undo id).toBody = { x with phase := 1, frame := s.frame }
        ∧ (s.undo id).pending = s.pending)
    ∧ (s.mode ≠ .safe → s.mode ≠ .reset →
      let b := s.undo id
      let t := s.enterSafe cause detail
      t.mode = .safe ∧ (b.mode ≠ .safe →
        t.fld 0x40 15 8 = cause ∧ t.reg64 0x68 = s.frame % 2 ^ 64 ∧ t.perc.held = [] ∧ t.dwrites = []
        ∧ t.commits = [] ∧ (∀ q, q < 128 → t.seq q = (b.seq q).halted)
        ∧ (∀ c k, c < 16 → k < 228 → t.tq (tkey c k) = .init)
        ∧ (∀ c, c < 16 → (t.me c).run = none ∧ (t.rd c).state = 0)
        ∧ t.mem = b.mem ∧ t.dbits = b.dbits ∧ (∀ i, i < 64 → t.reg (0x60000100 + 4 * i) = b.reg (0x60000100 + 4 * i))
        ∧ (∀ k, k < 64 → (t.bias k).fault = true ∧ (t.bias k).live = (b.bias k).live) ∧ t.frame = s.frame
        ∧ (b.power.aon = true → t.faultN = .low)))
    ∧ (s.mode = .safe → s.enterSafe cause detail = s.record 0x05 (leBytes 1 cause ++ leBytes 8 s.frame)
        ∧ (s.record 0x05 (leBytes 1 cause ++ leBytes 8 s.frame)).mode = .safe
        ∧ (∀ a, a ∉ [0x03000400, 0x03000410, 0x03000414] →
            (s.record 0x05 (leBytes 1 cause ++ leBytes 8 s.frame)).reg a = s.reg a)
        ∧ (s.record 0x05 (leBytes 1 cause ++ leBytes 8 s.frame)).host = s.host
        ∧ ∀ c : Fin 16, s.clusterFault c cause = s.record 0x05 (leBytes 1 cause ++ leBytes 8 s.frame))
    ∧ (∀ c : Fin 16, s.mode = .run → bitOf (s.fld 0x60 15 0) c = true → s.contained c = false →
        let b := s.undo id
        let t := s.clusterFault c cause
        t.mode = b.mode ∧ t.contained c = true ∧ (∀ q, q < 128 → q / 8 = c.val → t.seq q = (b.seq q).halted)
          ∧ (∀ q, q < 128 → q / 8 ≠ c.val → t.seq q = b.seq q) ∧ t.mem = b.mem
          ∧ (∀ k, k / 256 ≠ c.val → t.tq k = b.tq k) ∧ (∀ k, t.bias k = b.bias k))

/-- The block takes its commands first in, first out. -/
def Obligations.StepRunsFront : Prop :=
  ∀ (s : State) (c : Instr) (rest : List Instr),
    step { s with pending := c :: rest } = exec c { s with pending := rest }

/-- R42, R127: the spec's faults change the mode or contain a cluster; none ends the run. -/
def Obligations.NoStepStops : Prop :=
  (∀ (c : Instr) (s : State), ∃ t, exec c s = .next t)
    ∧ (∀ s : State, s.pending = [] → step s = .next s.idle)
    ∧ ∀ s : State, ∃ t, step s = .next t

/-- R12, R19, R42, R48, R54 and the register tables of the chapters. That reset is the release of RESET_N with valid rails is log
entry 4, and what a register holds whose value the spec calls NV, held or random, log entry 5. That every byte of memory is zero is the
model's choice (log entry 6), and so is SYNC_OUT low (log entry 59). -/
def Obligations.ResetValues : Prop :=
  let r := State.reset
  r.frame = 0 ∧ r.mode = .boot ∧ r.pending = [] ∧ r.commits = [] ∧ r.dbits = [] ∧ r.host.queues = []
    ∧ (∀ q, r.seq q = .init) ∧ (∀ k, r.tq k = .init) ∧ (∀ a, r.byteAt a = 0)
    ∧ (∀ a, locate a = none → r.reg a = 0)
    ∧ (∀ p ∈ ([(0x0, 0x1024B101), (0x4, 1), (0x40, 1), (0x01000008, 1518), (0x01000014, 0x800C8), (0x01000018, 2000),
        (0x0100001C, 2000), (0x02000010, 0), (0x02000014, 1), (0x03000004, 0x20004), (0x60000004, 8)] : List (Nat × Nat)),
        r.regN p.1 = p.2)
    ∧ (∀ k : Fin 4, r.regN (aHostSet k 4) = k)
    ∧ (∀ c : Fin 16, r.regN (aCl c 0xC00) = 2 ∧ r.regN (aPump c 0x14) = 0x200)
    ∧ (∀ n : Fin 32, r.regN (aAcq n 0) = 1 ∧ r.regN (aPrb n 0xC) = 0x200)
    ∧ (∀ p : Fin 8, r.regN (aGl p 8) = 0x10000)
    ∧ (∀ b : Fin 64, r.regN (aBias b 0) = 0x10)
    ∧ r.linkWord = 0 ∧ r.pwrgood = .high ∧ r.faultN = .released ∧ r.alertN = .released ∧ r.syncOut = .low

/-- The form is the model's own; it makes equal memories equal data. -/
def Obligations.ResetIsSound : Prop := State.reset.sound

/-- An invariant over all states and all commands, not only over runs from reset. -/
def Obligations.StepKeepsSound : Prop := ∀ s t : State, s.sound → step s = .next t → t.sound

/-- R175. LDS is decoded with a clean read: what its read meets is no bit of the word. -/
def Obligations.TarfigerDecodeEncode : Prop :=
  (∀ (i : Instr) (w : Nat), encodeSeq i = some w → (∀ q gd ga imm e, i = .lds q gd ga imm e → e = .clean) →
    w < 2 ^ 64 ∧ ∃ q, decodeSeq q w = i)
    ∧ ∀ (q : Fin 128) (w : Nat), w < 2 ^ 64 → decodeSeq q w ≠ .undefinedOpcode q →
        ∃ v, encodeSeq (decodeSeq q w) = some v ∧ decodeSeq q v = decodeSeq q w

/-- R327 to R329. LD and a parallel word are decoded with clean reads: what a read meets is no bit of the word. -/
def Obligations.RdspDecodeEncode : Prop :=
  (∀ (i : Instr) (w : Nat), encodeRdsp i = some w → (∀ c o e, i = .ld c o e → e = .clean) →
    (∀ c o e f, i = .rdspParallel c o e f → e = .clean ∧ f = .clean) → w < 2 ^ 32 ∧ ∃ c, decodeRdsp c w = some i)
    ∧ ∀ (c : Fin 16) (w : Nat) (i : Instr), w < 2 ^ 32 → decodeRdsp c w = some i →
        ∃ v, encodeRdsp i = some v ∧ decodeRdsp c v = some i

/-- R175, R176, R192, R327 to R329, R336. -/
def Obligations.WordsDecode : Prop :=
  let q : Fin 128 := 9
  let c : Fin 16 := 3
  decodeSeq q 0x2018000000000005 = .li q 3 5
    ∧ decodeSeq q 0x2208460000000000 = .add q ⟨1, 1, 3, false, 0⟩
    ∧ decodeSeq q 0x4106046040004000 = .cplay q
        { tgt := 6, dbit := 140, dflt := false, rc := false, pf := 0, n0 := true, n1 := false, fs0 := 0, fs1 := 0,
          gs := 1, gp := 0 }
    ∧ decodeSeq q 0x4460019202000000 = .acquire q ⟨0x60, 100, true, false, false, 2⟩
    ∧ decodeSeq q 0xFF00000000000000 = .undefinedOpcode q
    ∧ decodeRdsp c 0x10A11234 = some (.rdspLi c ⟨5, 0, true, 1, 0x1234⟩)
    ∧ decodeRdsp c 0x42510123 = some (.st c ⟨2, true, 0, 2, 0, 0x123⟩)
    ∧ decodeRdsp c 0x999C4000 = some (.rdspParallel c
        { mop := 1, ad := 2, xs := 3, xt := 1, lx := true, dx := 4, px := 1, ly := false, dy := 0, py := 0 } .clean .clean)
    ∧ decodeRdsp c 0x0A000000 = none

/-- R11, R96, R107, R121, R521, R537 to R539; shown on GLOBAL.SCRATCH, GLOBAL.RESET_CAUSE, GLOBAL.ID, DRV.SLOT_PHASE and
NTU.HOLD_IGNORED_CNT. -/
def Obligations.RegisterWrites : Prop :=
  ∀ (s : State) (src : Src) (a : Nat) (v : Word),
    let row : Instr := .registerWrite src (BitVec.ofNat 32 a) v
    let only (t : State) (w : Word) : Prop := t = { s with regs := t.regs, host := t.host, spi := t.spi }
      ∧ t.reg a = w ∧ (∀ b, b ≠ a → t.reg b = s.reg b)
      ∧ (src = .spi → t.host = s.host ∧ t.spi = { s.spi with refused := false, code := 0 })
      ∧ (∀ c k, src = .abral c → s.begins 1 c k → t.spi = s.spi ∧ s.answers t k .ok [])
    (s.accepts src a v →
      (a = 0x8 → ∃ t, exec row s = .next t ∧ only t v)
      ∧ (a = 0x48 → ∃ t, exec row s = .next t ∧ only t (s.reg a &&& ~~~(v &&& s.before a &&& 0x1F)))
      ∧ (a = 0x0 → ∃ t, exec row s = .next t ∧ only t (s.reg a))
      ∧ (∀ n k, n < 256 → k < 128 → a = aDrv n (0x1000 + 0x20 * k + 8) → ∃ t, exec row s = .next t
          ∧ t = { s with regs := t.regs, shadow := t.shadow, dirty := t.dirty, host := t.host, spi := t.spi }
          ∧ (∀ b, t.reg b = s.reg b) ∧ t.shadowWord a = v ∧ t.written a = true
          ∧ ∀ b, b ≠ a → t.shadowWord b = s.shadowWord b))
    ∧ (s.mode ≠ .reset → s.spi.posted.length < 64 → s.spi.posted ≠ [] ∨ s.phase ≤ 5 →
        exec (.registerWrite .spi (BitVec.ofNat 32 a) v) s
          = .next { s with spi := { s.spi with posted := s.spi.posted ++ [(BitVec.ofNat 32 a, v, false)] } })
    ∧ (a < 2 ^ 32 → 5 < s.phase → s.spi.kept = 0 → s.mode ≠ .reset → s.spi.posted = [] → s.spiStoring = false → s.writeMode true a = true →
        ∀ st b, ((s.spiPost (BitVec.ofNat 32 a) v false).spiDrop 1).writeRefused true false a [v] = some (st, b) →
        exec (.registerWrite .spi (BitVec.ofNat 32 a) v) s
          = .next { s with spi := { s.spi with refused := true, code := BitVec.ofNat 4 st.code } })
    ∧ (∀ ecc : Ecc, 5 < s.phase → s.mode ≠ .reset → s.spiBusy = false → ∃ t, exec (.spiRead 0x0200005C 1 ecc) s = .next t
        ∧ t = { s with regs := t.regs, was := t.was, spi := t.spi } ∧ t.spi.data = [s.before 0x0200005C]
        ∧ t.regN 0x0200005C = s.regN 0x0200005C - (s.before 0x0200005C).toNat ∧ t.before 0x0200005C = 0
        ∧ ∀ b, b ≠ 0x0200005C → t.reg b = s.reg b ∧ t.before b = s.before b)

/-- R229, R230, R248, R250, R275, R285, R497, R498. R55 says within 2 frames: that an enable is in force exactly 2 frames after
each write is the model's choice (log entry 19), and so is that a mute begins 2 frames after it (log entry 14). -/
def Obligations.OutputSettling : Prop :=
  ∀ (s : State) (src : Src) (v : Word),
    let later (x : State) : State := { x.keepPast with ticks := x.ticks + 1 }
    (∀ (cls : OutClass) (n : Fin 512) (row : Instr),
      n.val < (match cls with | .drv => 256 | .prb => 32 | .flx => 512 | .pump => 16) →
      row = .converterMode src cls n v ∨ row = .channelEnable src cls n v →
      s.accepts src (aOut cls n) v →
      let old := s.regN (aOut cls n)
      let x := s.stage cls n
      ∃ t, exec row s = .next t
        ∧ t = { s with regs := t.regs, stages := t.stages, host := t.host, spi := t.spi }
        ∧ (∀ b, b ≠ aOut cls n → t.reg b = s.reg b)
        ∧ bitOf (t.regN (aOut cls n)) 0 = bitOf v.toNat 0
        ∧ (cls ≠ .flx → bitOf (t.regN (aOut cls n)) 8 = bitOf v.toNat 8)
        ∧ ((∀ o ∈ s.past, o.1 < s.ticks) → t.enabled cls n = s.enabled cls n
            ∧ (later (later t)).enabled cls n = bitOf v.toNat 0)
        ∧ (cls ≠ .flx → bitOf old 8 ≠ bitOf v.toNat 8 → (t.stage cls n).settleUntil = s.ticks + 1002
            ∧ (t.stage cls n).settleFrom = if s.ticks < x.settleUntil then x.settleFrom else s.ticks + 2)
        ∧ (cls = .flx ∨ bitOf old 8 = bitOf v.toNat 8 →
            (t.stage cls n).settleUntil = x.settleUntil ∧ (t.stage cls n).settleFrom = x.settleFrom)
        ∧ ∀ c k, stageKey c k ≠ stageKey cls n → t.stage c k = s.stage c k)
    ∧ (∀ (cls : OutClass) (n : Fin 512) (row : Instr),
        row = .modeSettlingEnd cls n ∨ (cls = .flx ∧ row = .rangeSettlingEnd n) →
        let x := s.stage cls n
        (x.settleFrom < x.settleUntil → x.settleUntil ≤ s.ticks → ∃ t, exec row s = .next t
          ∧ t = { s with stages := t.stages } ∧ t.stage cls n = { x with settleFrom := 0, settleUntil := 0 }
          ∧ ∀ c k, stageKey c k ≠ stageKey cls n → t.stage c k = s.stage c k)
        ∧ (s.ticks < x.settleUntil → exec row s = .next s))
    ∧ (∀ n : Fin 32, s.accepts src (aAcq n 0) v → ∃ t, exec (.zone src n v) s = .next t
        ∧ t = { s with regs := t.regs, inputs := t.inputs, host := t.host, spi := t.spi }
        ∧ t.fld (aAcq n 0) 1 0 = bitsOf v.toNat 1 0 ∧ (∀ k, k ≠ n.val → t.input k = s.input k)
        ∧ (s.fld (aAcq n 0) 1 0 ≠ bitsOf v.toNat 1 0 →
            t.input n = { s.input n with zones := (s.input n).zones ++ [s.ticks] }
            ∧ t.zoneSettles n = s.zoneSettles n ∧ ({ t with ticks := s.ticks + 1 }).zoneSettles n = true
            ∧ ({ t with ticks := s.ticks + 10000 }).zoneSettles n = true
            ∧ ((∀ z ∈ (s.input n).zones, z < s.ticks) → ({ t with ticks := s.ticks + 10001 }).zoneSettles n = false))
        ∧ (s.fld (aAcq n 0) 1 0 = bitsOf v.toNat 1 0 → t.input n = s.input n))
    ∧ (∀ n : Fin 32, ∃ t, exec (.zoneSettlingEnd n) s = .next t ∧ t = { s with inputs := t.inputs }
        ∧ t.zoneSettles n = s.zoneSettles n ∧ (∀ i w, i / 32 = n.val → w ∈ (s.slot i).wins → t.winSettles i w = s.winSettles i w)
        ∧ (t.input n = { s.input n with zones := (t.input n).zones }) ∧ (∀ k, k ≠ n.val → t.input k = s.input k)
        ∧ ((∀ z ∈ (s.input n).zones, s.ticks ≤ z + 10000) → t.input n = s.input n)
        ∧ ((∀ z ∈ (s.input n).zones, z + 10000 < s.ticks) → (∀ i, i / 32 = n.val → (s.slot i).wins = []) →
            (t.input n).zones = []))
    ∧ (∀ cl : Fin 16, s.accepts src (aCl cl 0xC04) v → ∃ t, exec (.carafeFlush src cl v) s = .next t
        ∧ t = { s with clusters := t.clusters, plays := t.plays, host := t.host, spi := t.spi }
        ∧ (bitOf v.toNat 0 = true → (t.cl cl).ring = [] ∧ (t.cl cl).wr = 0 ∧ (t.cl cl).rd = 0
            ∧ (∀ c, c ≠ cl.val → t.cl c = s.cl c)
            ∧ ∀ k, k / 256 ≠ cl.val → t.playOn k = s.playOn k)
        ∧ (bitOf v.toNat 0 = false → t = { s with host := t.host, spi := t.spi }))

/-- R23, R25, R74, R78, R130, R171, R338, R354, R371, R419, R420, R539. -/
def Obligations.UnitWrites : Prop :=
  ∀ (s : State) (src : Src) (v : Word) (cl : Fin 16),
    (s.accepts src (aCl cl 0x1010) v → ∃ t, exec (.hostCall src cl v) s = .next t
      ∧ t = { s with regs := t.regs, mes := t.mes, host := t.host, spi := t.spi }
      ∧ (∀ c, c ≠ cl.val → t.me c = s.me c)
      ∧ (bitOf v.toNat 31 = false → t.regs = s.regs ∧ t.mes = s.mes)
      ∧ (bitOf v.toNat 31 = true → s.hostBusy cl = true → bitOf (t.regN (aCl cl 0x1000)) 9 = true ∧ t.mes = s.mes
          ∧ ∀ a, a ≠ aCl cl 0x1000 → t.reg a = s.reg a)
      ∧ (bitOf v.toNat 31 = true → s.hostBusy cl = false → t.regs = s.regs
          ∧ ∃ r, (t.me cl).hostReq = some r ∧ r.host = true ∧ r.index = bitsOf v.toNat 7 0 ∧ r.seq = bitsOf v.toNat 26 24
            ∧ r.w = [0, 0, 0, 0, 0, BitVec.ofNat 32 r.index, BitVec.ofNat 32 r.seq]
            ∧ r.tl.toNat = bitsOf v.toNat 23 12 ∧ r.issue = s.frame ∧ (t.me cl).run = (s.me cl).run))
    ∧ (∀ w : Fin 16384, s.accepts src (0x90000000 + 32 * w.val + 0x14) v →
      ∃ t, exec (.controlStoreInstall src w v) s = .next t
        ∧ t = { s with mem := t.mem, host := t.host, spi := t.spi } ∧ 12288 ≤ w.val
        ∧ t.bytesAt (0x90000000 + 32 * w.val) 24
            = (List.range 5).flatMap (fun i => leBytes 4 (s.staged (0x90000000 + 4 * i)).toNat) ++ leBytes 4 v.toNat
        ∧ ∀ a, a < 0x90000000 + 32 * w.val ∨ 0x90000000 + 32 * w.val + 24 ≤ a → t.byteAt a = s.byteAt a)
    ∧ (∀ w : Fin 65536, s.accepts src (aCl cl (0x80000 + 8 * w.val + 4)) v →
      let b := aCl cl (0x80000 + 8 * w.val)
      ∃ t, exec (.programWordInstall src cl w v) s = .next t
        ∧ t = { s with mem := t.mem, host := t.host, spi := t.spi }
        ∧ t.bytesAt b 8
            = leBytes 4 (s.staged (pathKey (decide (src = .spi)) (aCl cl 0x80000))).toNat ++ leBytes 4 v.toNat
        ∧ ∀ a, a < b ∨ b + 8 ≤ a → t.byteAt a = s.byteAt a)
    ∧ (s.accepts src (aRd cl 0x20) v → ∃ t, exec (.mboxIn src cl v) s = .next t
        ∧ t = { s with regs := t.regs, rdsps := t.rdsps, host := t.host, spi := t.spi }
        ∧ t.reg (aRd cl 0x20) = v ∧ t.rd cl = { s.rd cl with mboxReq := true } ∧ (∀ c, c ≠ cl.val → t.rd c = s.rd c)
        ∧ ((s.rd cl).mboxReq = true → bitOf (t.regN (aRd cl 4)) 11 = true)
        ∧ ((s.rd cl).mboxReq = false → t.reg (aRd cl 4) = s.reg (aRd cl 4)))
    ∧ (s.accepts src 0x60000024 v → ∃ t, exec (.pauliClear src v) s = .next t
        ∧ t = { s with regs := t.regs, host := t.host, spi := t.spi }
        ∧ (bitOf v.toNat 0 = true → (∀ k, k < 64 → t.reg (0x60000100 + 4 * k) = 0)
            ∧ ∀ a, (∀ k, k < 64 → a ≠ 0x60000100 + 4 * k) → t.reg a = s.reg a)
        ∧ (bitOf v.toNat 0 = false → t.regs = s.regs))
    ∧ ((∀ q, q < 64 → ∀ x ∈ (s.hq q).active, x.op ≠ 0x0A) →
        (s.accepts src 0x110 v → ∃ t, exec (.roundOriginWrite src v) s = .next t ∧ t.perc = { s.perc with held := [] }
          ∧ t.reg 0x10C = s.staged 0x10C ∧ t.reg 0x110 = v
          ∧ t = { s with regs := t.regs, perc := t.perc, host := t.host, spi := t.spi })
        ∧ (s.accepts src 0x108 v → ∃ t, exec (.roundLenWrite src v) s = .next t ∧ t.perc = { s.perc with held := [] }
          ∧ t.fld 0x108 24 0 = bitsOf v.toNat 24 0
          ∧ t = { s with regs := t.regs, perc := t.perc, host := t.host, spi := t.spi }))
    ∧ (s.accepts src 0x64 v → ∃ t, exec (.clusterFaultClear src v) s = .next t
        ∧ (∀ c, c < 16 → s.contained c = true → bitOf (v &&& s.before 0x64).toNat c = true → t.contained c = false
            ∧ (∀ k, k < 8 → t.seq (8 * c + k) = { Seq.init with lastNotify := (s.seq (8 * c + k)).lastNotify }) ∧ t.me c = .init ∧ t.trk c = .init)
        ∧ (∀ c, c < 16 → bitOf (v &&& s.before 0x64).toNat c = false → t.contained c = s.contained c
            ∧ (∀ k, k < 8 → t.seq (8 * c + k) = s.seq (8 * c + k)) ∧ t.me c = s.me c ∧ t.trk c = s.trk c)
        ∧ t.mem = s.mem ∧ t.mode = s.mode ∧ ∀ a, a ≠ 0x64 → t.reg a = s.reg a)
    ∧ (s.accepts src 0x01000000 v → ∃ t, exec (.portRetrain src v) s = .next t
        ∧ (∀ k, k < 4 → (t.hport k).up = false ∧ (t.hport k).downAt = s.ticks ∧ (t.hport k).wire = none)
        ∧ (∀ k, k < 4 → (s.split = true ∨ k = 0) → (s.hport k).up = true → bitOf (t.regN 0x01000004) (8 + k) = true)
        ∧ t.fld 0x01000000 0 0 = bitsOf v.toNat 0 0 ∧ t.mode = s.mode ∧ t.mem = s.mem)
    ∧ (∀ k : Fin 4, s.accepts src (aHostSet k 0x3C) v → ∃ t, exec (.ipCfgValid src k v) s = .next t
        ∧ bitOf (t.regN (aHostSet k 0x3C)) 0 = bitOf v.toNat 0
        ∧ (bitOf (s.regN (aHostSet k 0x3C)) 0 = false → bitOf v.toNat 0 = true →
            (t.hport k).filterFrom = s.frame + 1)
        ∧ (bitOf v.toNat 0 = false → (t.hport k).filterFrom = (s.hport k).filterFrom)
        ∧ (∀ a, a ≠ aHostSet k 0x3C → t.reg a = s.reg a) ∧ t.mem = s.mem)

/-- R265, R516, R521, R522, R538, R539: a posted word knows whether its WRITE installs whole directory entries. That a full buffer
whose oldest word hardware serves has applied it when another word comes is the model's choice (log entry 68). The words written
and read are shown on GLOBAL.SCRATCH. -/
def Obligations.SpiRows : Prop :=
  ∀ (s : State) (addr v w : Word) (words : List Word) (count : Nat) (ecc : Ecc) (whole : Bool)
      (rest : List (Word × Word × Bool)),
    let shown (r : Bool) (c : BitVec 4) : Spi := { s.spi with
      posted := rest, kept := s.spi.kept - 1,
      refused := if s.spi.kept = 0 then r else s.spi.refused, code := if s.spi.kept = 0 then c else s.spi.code }
    (s.mode = .reset → exec (.spiWrite addr words) s = .next s ∧ exec (.spiRead addr count ecc) s = .next s
      ∧ exec .spiStatus s = .next s ∧ exec .spiPostedWord s = .next s)
    ∧ (s.mode ≠ .reset →
      (s.spi.posted.length + words.length ≤ 64 → ∃ t, exec (.spiWrite addr words) s = .next t
        ∧ t = { s with spi := { s.spi with posted := t.spi.posted } }
        ∧ t.spi.posted.length = s.spi.posted.length + words.length ∧ t.spi.posted.take s.spi.posted.length = s.spi.posted
        ∧ ∀ i, i < words.length → t.spi.posted[s.spi.posted.length + i]? =
            some (addr + BitVec.ofNat 32 (4 * i), words.getD i 0,
              inDirectory addr.toNat && decide (addr.toNat % 16 = 0) && decide (words.length % 4 = 0)))
      ∧ (64 ≤ s.spi.posted.length → words ≠ [] → s.spiHardware = false ∨ s.spiStoring = true →
          exec (.spiWrite addr words) s =
          .next { s with spi := { s.spi with refused := true, code := 9, kept := s.spi.posted.length } })
      ∧ (s.spi.posted = (8, v, whole) :: rest → rest.length = 63 → s.spiStoring = false → s.writeMode true 8 = true →
          ∃ t, exec (.spiWrite addr [w]) s = .next t ∧ t = { s with regs := t.regs, spi := t.spi }
          ∧ t.spi = { shown false 0 with posted := rest ++ [(addr, w, false)] } ∧ t.reg 8 = v
          ∧ ∀ a, a ≠ 8 → t.reg a = s.reg a)
      ∧ (s.spi.posted = (8, v, whole) :: rest → s.spiStoring = false → s.spi.read = none →
        (s.writeMode true 8 = true → ∃ t, exec .spiPostedWord s = .next t ∧ t = { s with regs := t.regs, spi := t.spi }
          ∧ t.spi = shown false 0 ∧ t.reg 8 = v ∧ ∀ a, a ≠ 8 → t.reg a = s.reg a))
      ∧ (s.spi.posted = (0x44, v, whole) :: rest → s.mode = .boot → s.spiStoring = false → s.spi.read = none →
        exec .spiPostedWord s = .next { s with spi := shown true 6 })
      ∧ (s.spiBusy = true ∨ s.phase ≤ 5 → exec (.spiRead addr count ecc) s =
          .next { s with spi := { s.spi with read := some (addr, count), data := [] } })
      ∧ (s.spiBusy = false → 5 < s.phase → exec (.spiRead 8 1 ecc) s =
          .next { s with spi := { s.spi with refused := false, code := 0, read := none, data := [s.reg 8] } })
      ∧ (s.spiBusy = false → s.spi.posted = [] → s.spi.read = some (8, 1) → exec .spiPostedWord s =
          .next { s with spi := { s.spi with refused := false, code := 0, read := none, data := [s.reg 8] } })
      ∧ (s.spiBusy = false → 5 < s.phase → addr.toNat % 4 ≠ 0 → exec (.spiRead addr count ecc) s =
          .next { s with spi := { s.spi with refused := true, code := 8, read := none, data := [] } })
      ∧ (∃ t, exec .spiStatus s = .next t ∧ t = { s with spi := { s.spi with status := t.spi.status } }
        ∧ t.spi.status.getLsbD 0 = s.spiBusy ∧ t.spi.status.getLsbD 1 = s.spi.refused
        ∧ t.spi.status.extractLsb' 4 4 = s.spi.code ∧ t.spi.status.extractLsb' 2 2 = 0#2))
    ∧ exec .spiCsNRaise s = .next { s with spi := { s.spi with read := none } }

/-- R379, R387, R389 to R394. -/
def Obligations.CaptureRows : Prop :=
  ∀ (s : State) (src : Src) (v : Word) (n : Fin 32) (k : Fin 64),
    let st (u : State) : Nat := u.fld (aSnap n 0xC) 1 0
    let was := s.snapState n
    (s.accepts src (aTrace k 0) v →
      (bitOf v.toNat 31 = true → s.traceOpen k = false → ∃ t, exec (.traceOpen src k v) s = .next t
        ∧ t = { s with regs := t.regs, cap := t.cap, host := t.host, spi := t.spi }
        ∧ t.traceOpen k = true ∧ t.trace k = { Trace.init with at_ := s.ticks } ∧ ∀ j, j ≠ k.val → t.trace j = s.trace j)
      ∧ (bitOf v.toNat 31 = false → s.traceOpen k = true → ∃ t, exec (.traceClose src k v) s = .next t
        ∧ t = { s with regs := t.regs, cap := t.cap, host := t.host, spi := t.spi }
        ∧ t.traceOpen k = false ∧ t.trace k = .init ∧ ∀ j, j ≠ k.val → t.trace j = s.trace j))
    ∧ (s.accepts src (aSnap n 0) v →
      (bitOf v.toNat 31 = true → ∃ t, exec (.snapArm src n v) s = .next t
        ∧ t = { s with regs := t.regs, cap := t.cap, host := t.host, spi := t.spi }
        ∧ st t = 1 ∧ t.snap n = ⟨s.ticks + 64, 0, 0, 0, 0, false⟩ ∧ ∀ j, j ≠ n.val → t.snap j = s.snap j)
      ∧ (bitOf v.toNat 31 = false → bitOf v.toNat 29 = true → ∃ t, exec (.snapForce src n v) s = .next t
        ∧ t = { s with regs := t.regs, cap := t.cap, host := t.host, spi := t.spi }
        ∧ (was = 2 → st t = 3 ∧ (t.snap n).trig = s.frame ∧ (t.snap n).at_ = s.ticks
            ∧ (t.snap n).pre = min (s.fld (aSnap n 4) 16 0) (s.ticks + 32 - (s.snap n).rearm)
            ∧ (t.snap n).post = min (s.fld (aSnap n 8) 16 0) (65536 - s.fld (aSnap n 4) 16 0)
            ∧ (t.snap n).clip = decide (65536 - s.fld (aSnap n 4) 16 0 < s.fld (aSnap n 8) 16 0)
            ∧ t.fld (aSnap n 0xC) 2 2 = s.fld (aSnap n 0xC) 2 2)
        ∧ (was = 1 ∨ was = 3 → st t = st s ∧ t.snap n = s.snap n ∧ bitOf (t.regN (aSnap n 0xC)) 3 = true
            ∧ t.regN (aSnap n 0x20) = min (2 ^ 32 - 1) (s.regN (aSnap n 0x20) + 1))
        ∧ (was = 0 → st t = 0 ∧ t.cap = s.cap)))
    ∧ (∀ (i : Fin 48) (pos : Fin 16),
      let now := 16 * s.ticks + pos.val
      let named (j : Nat) : Prop := s.fld (aSnap j 0) 8 8 = 1 ∧ s.fld (aSnap j 0) 5 0 = i.val
      (∀ p, s.streaming = true → sget none s.cap.edges i.val = some p → now < p + 64 →
        exec (.triggerEdge i pos) s = .next s)
      ∧ (s.streaming = true → (∀ p, sget none s.cap.edges i.val = some p → p + 64 ≤ now) →
        ∃ t, exec (.triggerEdge i pos) s = .next t ∧ t = { s with regs := t.regs, cap := t.cap }
          ∧ sget none t.cap.edges i.val = some now
          ∧ (named n → was = 2 → st t = 3 ∧ (t.snap n).trig = s.numberAt (s.ticks - 32)
            ∧ (t.snap n).at_ = s.ticks - 32)
          ∧ (named n → was = 1 ∨ was = 3 → st t = st s ∧ t.snap n = s.snap n
              ∧ t.regN (aSnap n 0x20) = min (2 ^ 32 - 1) (s.regN (aSnap n 0x20) + 1))
          ∧ (¬ named n → t.snap n = s.snap n ∧ st t = st s)
          ∧ (s.traceOpen k = true → bitOf (s.regN (aTrace k 4)) 31 = true → bitsOf (s.regN (aTrace k 4)) 5 0 = i.val →
              let mark := (s.ticks, traceRec 0x12 (i.val + 256 * pos.val) (s.numberAt (s.ticks - 32)) [])
              (s.traceLag k s.ticks = 0 → (s.trace k).lost = 0 → s.traceStaged k + 16 ≤ 65536 →
                (t.trace k).recs = (s.trace k).recs ++ [mark])
              ∧ (s.traceLag k s.ticks ≠ 0 → t.trace k = { s.trace k with marks := (s.trace k).marks ++ [mark] }))))
    ∧ ((st s = 1 → (s.snap n).rearm ≤ s.ticks → ∃ t, exec (.rearmEnd n) s = .next t ∧ t = { s with regs := t.regs }
          ∧ st t = 2 ∧ ∀ a, a ≠ aSnap n 0xC → t.reg a = s.reg a)
      ∧ (st s ≠ 1 ∨ s.ticks < (s.snap n).rearm → exec (.rearmEnd n) s = .next s))
    ∧ (let x := s.snap n
      let bytes := snapBytes ((List.range (8 * (x.pre + x.post))).map (fun j => s.adcAt n (samplePos (x.at_ - x.pre) j)))
      let b := 0x72000000 + 0x100000 * n.val
      (st s = 3 → x.doneAt ≤ s.ticks → ∃ t, exec (.snapshotComplete n) s = .next t
        ∧ t = { s with regs := t.regs, cap := t.cap, mem := t.mem }
        ∧ t.bytesAt b bytes.length = bytes ∧ (∀ a, a < b ∨ b + bytes.length ≤ a → t.byteAt a = s.byteAt a)
        ∧ t.regN (aSnap n 0x10) = x.pre % 2 ^ 32 ∧ t.regN (aSnap n 0x14) = x.post % 2 ^ 32
        ∧ t.reg64 (aSnap n 0x18) = x.trig % 2 ^ 64
        ∧ t.fld (aSnap n 0xC) 2 2 = b2n x.clip
        ∧ t.fld (aSnap n 0xC) 31 16 = (s.fld (aSnap n 0xC) 31 16 + 1) % 65536
        ∧ (s.fld (aSnap n 0) 30 30 = 0 → st t = 0)
        ∧ (s.fld (aSnap n 0) 30 30 = 1 → st t = 1 ∧ t.snap n = ⟨s.ticks + 65, 0, 0, 0, 0, false⟩))
      ∧ (st s ≠ 3 ∨ s.ticks < x.doneAt → exec (.snapshotComplete n) s = .next s))
    ∧ (let x := s.trace k
      (x.lost ≠ 0 → x.lost < 2 ^ 32 → s.streaming = true → s.traceOpen k = true → s.traceStaged k + 16 ≤ 65536 →
        ∃ t, exec (.gap k) s = .next t ∧ t = { s with cap := t.cap }
          ∧ t.trace k = { x with recs := x.recs ++ [(s.ticks, traceRec 0x11 x.lost x.lostFrom [])], lost := 0 }
          ∧ ∀ j, j ≠ k.val → t.trace j = s.trace j)
      ∧ (x.lost = 0 ∨ 65536 < s.traceStaged k + 16 → exec (.gap k) s = .next s))
    ∧ ∀ m, sget [] s.cap.merge n.val = [m] →
      (m.due ≤ s.ticks → s.streaming = true → s.stagedBytes + 32 ≤ 65536 →
        ∃ t, exec (.mergedRecord n) s = .next t ∧ t = { s with cap := t.cap, host := t.host }
          ∧ sget [] t.cap.merge n.val = []
          ∧ t.host = { s.host with result := { s.host.result with
              recs := s.host.result.recs ++ [(s.ticks, mergedBytes n m)] } })
      ∧ (s.ticks < m.due → ∃ t, exec (.mergedRecord n) s = .next t
          ∧ t = { s with cap := t.cap } ∧ sget [] t.cap.merge n.val = [m])

/-- R448, R450 to R460. That flits pair into blocks from training on, and that a block with a CAL flit in it is a control block,
is the model's choice (log entry 70). -/
def Obligations.GolletRows : Prop :=
  ∀ (s : State) (p : Fin 8) (src : Src) (v : Word),
    let x := s.gol p
    let phase := s.fld (aGl p 0xC) 21 16
    let other (t : State) : Prop := ∀ j, j ≠ p.val → t.gol j = s.gol j
    (s.golState p = 2 → s.lanesOn = true →
      let now := s.outGroups p
      let ch := changedGroups x.last now
      let rreq := s.askRefresh p
      let onLanes (t : State) (y : Gol) (f : BitVec 64) : Prop := t = { s with gols := t.gols } ∧ other t
        ∧ (y.half = none → t.gol p = { y with out := some f, half := some f })
        ∧ ∀ e, y.half = some e →
          let a := scramble y.scr.1 (f.extractLsb' 32 32 ++ e.extractLsb' 32 32)
          let b := scramble y.scr.2 (f.extractLsb' 0 32 ++ e.extractLsb' 0 32)
          let h : BitVec 2 := if isCal e = true ∨ isCal f = true then 2 else 1
          t.gol p = { y with out := some f, half := none, scr := (a.1, b.1), block := some (a.2 ++ h, b.2 ++ h) }
      (s.frame % 33 = phase → ∃ t, exec (.flitTransmit p) s = .next t ∧ t = { s with gols := t.gols } ∧ other t
        ∧ t.gol p = { x with last := now, prevChange := ch, prevFrame := s.ticks, out := none })
      ∧ (s.frame % 33 ≠ phase → x.prevFrame + 1 ≠ s.ticks →
        (∀ g b, ch = [(g, b)] → x.backlog = 0 → ∃ t, exec (.flitTransmit p) s = .next t
          ∧ onLanes t { x with last := now, prevChange := [] } (mkFlit 1 rreq (mkEntry false g b * 2 ^ 22)))
        ∧ (2 < ch.length → ∃ t, exec (.flitTransmit p) s = .next t
          ∧ onLanes t { x with last := now, prevChange := [], backlog := x.backlog ||| groupBits (ch.map (·.1)) }
              (mkFlit 3 rreq ((groupBits (ch.map (·.1))).toNat * 2 ^ 12)))
        ∧ (∀ c d rest, ch = [] → x.backlog = 0 → x.txq = (c, d) :: rest → ∃ t, exec (.flitTransmit p) s = .next t
          ∧ onLanes t { x with last := now, prevChange := [], txq := rest }
              (mkFlit 4 rreq (c.toNat * 2 ^ 36 + d.toNat * 2 ^ 4)))))
    ∧ (s.golState p ≠ 2 → exec (.flitTransmit p) s = .next s ∧ ∀ flit n, exec (.flitReceive p flit n) s = .next s)
    ∧ (∀ (flit : BitVec 64) (n : Nat), s.golState p = 2 →
      let f := flit.toNat
      let late := n + 39 + s.fld (aGl p 8) 7 0
      let lost (t : State) (bit : Nat) (cnt : Nat) : Prop := t = { s with regs := t.regs, gols := t.gols } ∧ other t
        ∧ bitOf (t.regN (aGl p 0xC)) bit = true ∧ t.regN (aGl p cnt) = min (2 ^ 32 - 1) (s.regN (aGl p cnt) + 1)
        ∧ t.gol p = { x with due := x.due ++ [⟨late + 1, n, true, 0xFFFFFFFF, 0, 0⟩] }
      (flitCrc f ≠ bitsOf f 15 0 ∨ bitsOf f 63 61 = 7 → ∃ t, exec (.flitReceive p flit n) s = .next t ∧ lost t 4 0x10)
      ∧ (flitCrc f = bitsOf f 15 0 → bitsOf f 63 61 ≠ 7 → late < s.frame →
          ∃ t, exec (.flitReceive p flit n) s = .next t ∧ lost t 5 0x14)
      ∧ (flitCrc f = bitsOf f 15 0 → s.frame ≤ late → bitOf f 60 = false →
        (bitsOf f 63 61 = 1 → ∃ t, exec (.flitReceive p flit n) s = .next t ∧ t = { s with gols := t.gols } ∧ other t
          ∧ t.gol p = { x with due := x.due ++ [⟨(if bitOf f 59 then n - 1 else n) + 40 + s.fld (aGl p 8) 7 0, n, false,
              BitVec.ofNat 32 (2 ^ bitsOf f 58 54), BitVec.ofNat 8 (bitsOf f 53 46), BitVec.ofNat 8 (bitsOf f 45 38)⟩] })
        ∧ (bitsOf f 63 61 = 4 → x.rxq.length < 16 → ∃ t, exec (.flitReceive p flit n) s = .next t
          ∧ t = { s with gols := t.gols } ∧ other t
          ∧ t.gol p = { x with
              rxq := x.rxq ++ [(BitVec.ofNat 8 (bitsOf f 59 52), BitVec.ofNat 32 (bitsOf f 51 20))] })
        ∧ (bitsOf f 63 61 = 4 → 16 ≤ x.rxq.length → ∃ t, exec (.flitReceive p flit n) s = .next t
          ∧ t = { s with regs := t.regs } ∧ bitOf (t.regN (aGl p 0xC)) 8 = true
          ∧ t.regN (aGl p 0x18) = min (2 ^ 32 - 1) (s.regN (aGl p 0x18) + 1))))
    ∧ (∀ (e : GlEntry) (g : Nat), x.due = [e] → e.due ≤ s.frame → e.stale = false → g < 32 →
        e.groups = BitVec.ofNat 32 (2 ^ g) → ∃ t, exec (.entryDue p) s = .next t
          ∧ t = { s with gols := t.gols, dbits := t.dbits, dlog := t.dlog } ∧ (t.gol p).due = []
          ∧ (∀ i, i < 8 → t.dbit (inbound p g + i) =
              { s.dbit (inbound p g + i) with
                value := e.values.getLsbD i, valid := e.valid.getLsbD i, inRound := s.inRoundAt s.frame,
                tag := BitVec.ofNat 32 (s.roundAt s.frame),
                stale := (s.dbit (inbound p g + i)).stale && !decide (sget 0 x.staleFrom g < e.snap) })
          ∧ ∀ d, (d < inbound p g ∨ inbound p g + 8 ≤ d) → t.dbit d = s.dbit d)
    ∧ (∀ (id : BitVec 16) (port : Fin 8) (skip : Fin 33), s.fld (aGl p 0) 0 0 = 1 → s.lanesOn = true → s.golState p ≠ 2 →
        let same := s.fld (aGl p 4) 15 0 = id.toNat ∧ s.fld (aGl p 4) 18 16 = port.val
        (same → ∃ t, exec (.portTrain p id port skip) s = .next t ∧ t = { s with regs := t.regs, gols := t.gols }
          ∧ t.golState p = 2 ∧ t.fld (aGl p 0xC) 21 16 = skip.val ∧ (t.gol p).backlog = 0
          ∧ (t.gol p).refreshAt = x.refreshAt ∧ (t.gol p).half = none)
        ∧ (¬ same → ∃ t, exec (.portTrain p id port skip) s = .next t ∧ t = { s with regs := t.regs }
          ∧ t.golState p = 1 ∧ t.fld (aGl p 0xC) 2 2 = 1))
    ∧ (s.golState p = 1 → s.lanesOn = true → s.golTraining p = some (BitVec.ofNat 16 (s.fld 0x04000000 15 0), p))
    ∧ (s.golState p ≠ 1 → s.golTraining p = none)
    ∧ (s.golState p = 2 → ∃ t, exec (.blockLockLoss p) s = .next t ∧ t.golState p = 1 ∧ t.staleGroups p = 0xFFFFFFFF
        ∧ (t.gol p).calOn = false ∧ t = { s with regs := t.regs, gols := t.gols, dbits := t.dbits, dlog := t.dlog })
    ∧ (s.accepts src (aGl p 0) v → bitOf v.toNat 0 = true → s.golState p = 2 → bitOf v.toNat 1 = true →
        ∃ t, exec (.cal src p v) s = .next t
          ∧ t = { s with regs := t.regs, gols := t.gols, host := t.host, spi := t.spi } ∧ other t
          ∧ t.gol p = { x with calOn := true, calLeft := 1024, calSent := none, calMax := 0 })
    ∧ (x.calOn = true → x.calLeft = 0 → (x.calMax - 39).toNat + s.fld (aGl p 8) 19 16 < 256 →
        ∃ t, exec (.calDone p) s = .next t ∧ t = { s with regs := t.regs, gols := t.gols } ∧ (t.gol p).calOn = false
          ∧ t.fld (aGl p 8) 15 8 = (x.calMax - 39).toNat
          ∧ t.fld (aGl p 8) 7 0 = (x.calMax - 39).toNat + s.fld (aGl p 8) 19 16 ∧ t.fld (aGl p 0xC) 3 3 = 1)
    ∧ (s.accepts src (aGl p 0x24) v → ∃ t, exec (.msgTx src p v) s = .next t
        ∧ t = { s with regs := t.regs, gols := t.gols, host := t.host, spi := t.spi }
        ∧ (x.txq.length < 16 → t.regs = s.regs
            ∧ t.gol p = { x with txq := x.txq ++ [(BitVec.ofNat 8 (bitsOf v.toNat 7 0), s.reg (aGl p 0x20))] })
        ∧ (16 ≤ x.txq.length → t.gols = s.gols ∧ bitOf (t.regN (aGl p 0xC)) 7 = true))
    ∧ (∀ c d rest, x.rxq = (c, d) :: rest →
        (5 < s.phase → s.mode ≠ .reset → s.spiBusy = false → ∃ t, exec (.msgRxData .spi p) s = .next t
          ∧ t = { s with gols := t.gols, spi := t.spi } ∧ t.gol p = { x with rxq := rest } ∧ t.spi.data = [d])
        ∧ (∀ h k, s.begins 2 h k → k.cmd.arg = BitVec.ofNat 32 (aGl p 0x2C) → k.cmd.payload = leBytes 4 4 →
          4 ≤ s.maxPayload (s.queuePort h.queue) k.peer →
          ∃ t, exec (.msgRxData (.abral h) p) s = .next t ∧ t = { s with gols := t.gols, host := t.host }
            ∧ t.gol p = { x with rxq := rest } ∧ s.answers t k .ok (leBytes 4 d.toNat)))

/-- R19, R461, R464, R481. -/
def Obligations.EpochRows : Prop :=
  ∀ (s : State) (src : Src) (v : Word),
    (s.accepts src 0x04000010 v →
      (∃ t, exec (.syncArm src v) s = .next t
        ∧ t = { s with regs := t.regs, sync := t.sync, host := t.host, spi := t.spi }
        ∧ t.fld 0x04000010 0 0 = bitsOf v.toNat 0 0 ∧ t.fld 0x04000010 9 4 = bitsOf v.toNat 9 4
        ∧ (∀ a, a ≠ 0x04000010 → t.reg a = s.reg a) ∧ t.sync.reloadAt = s.sync.reloadAt
        ∧ (bitOf v.toNat 1 = false → t.sync = s.sync))
      ∧ (bitOf v.toNat 1 = true → bitsOf v.toNat 9 8 = 2 → ∃ t, exec (.syncGen src v) s = .next t
        ∧ t = { s with regs := t.regs, sync := t.sync, host := t.host, spi := t.spi }
        ∧ ∃ e, s.frame + 8 ≤ e ∧ e < s.frame + 12 ∧ e % 4 = s.sync.edge % 4 ∧ e ∈ t.sync.outs
          ∧ (∀ f ∈ t.sync.outs, f = e ∨ f ∈ s.sync.outs) ∧ ∀ f ∈ s.sync.outs, s.frame < f + 4 → f ∈ t.sync.outs))
    ∧ (s.power.aon = true → s.mode = .ready ∨ s.mode = .run → (s.syncOut = .high ↔ s.fld 0x04000010 9 8 ≠ 0
        ∧ ∃ f ∈ s.sync.outs, f ≤ s.frame ∧ s.frame < f + 4))
    ∧ (s.mode ≠ .reset →
      (s.fld 0x04000010 0 0 = 0 → ∃ t, exec .syncInPulse s = .next t ∧ t = { s with regs := t.regs, sync := t.sync }
        ∧ t.regN 0x04000020 = min (2 ^ 32 - 1) (s.regN 0x04000020 + 1) ∧ t.sync.reloadAt = s.sync.reloadAt
        ∧ ∀ a, a ≠ 0x04000020 → t.reg a = s.reg a)
      ∧ (s.fld 0x04000010 0 0 = 1 → s.fld 0x04000010 7 4 = 0 → s.sync.reloadAt = none → ∃ t, exec .syncInPulse s = .next t
        ∧ t = { s with sync := t.sync } ∧ t.sync.reloadAt = some (s.frame + s.fld 0x04000014 15 0))
      ∧ (s.fld 0x04000010 9 8 = 1 → ∃ t, exec .syncInPulse s = .next t ∧ s.frame + 4 ∈ t.sync.outs
        ∧ ∀ f ∈ s.sync.outs, s.frame < f + 4 → f ∈ t.sync.outs))
    ∧ ∀ f, s.sync.reloadAt = some f →
      (f ≤ s.frame → ∃ t, exec .epochReload s = .next t ∧ t.frame = s.reg64 0x04000018 ∧ t.fld 0x04000010 0 0 = 0
        ∧ t.fld 0x11C 1 1 = 1 ∧ t.sync.reloadAt = none ∧ t.ticks = s.ticks ∧ t.numberAt s.ticks = t.frame ∧ t.ntu.pairSeq = s.ntu.pairSeq + 1
        ∧ t.ntu.lastPair = some t.frame ∧ t.ntu.clock = s.ntu.clock ∧ t.seqs = s.seqs ∧ t.tqueues = s.tqueues
        ∧ t.commits = s.commits ∧ t.dbits = s.dbits ∧ t.mem = s.mem ∧ t.mode = s.mode)
      ∧ (s.frame < f → exec .epochReload s = .next s)

/-- R469 to R481. The PTP message types and the offsets of a sourcePortIdentity are taken from outside the spec, as the model's
choice (log entry 44), and so is index 0 for the first pair (log entry 36). -/
def Obligations.NetTimeRows : Prop :=
  ∀ (s : State) (src : Src) (v : Word) (i : Fin 64),
    let n := s.ntu
    let wrote (t : State) : Prop := t = { s with regs := t.regs, ntu := t.ntu, host := t.host, spi := t.spi }
    (s.accepts src 0x02000024 v → ∃ t, exec (.servoOffset src v) s = .next t ∧ wrote t
      ∧ (s.fld 0x0200002C 0 0 = 0 → s.holdover = false → t.regs = s.regs ∧ t.ntu = n)
      ∧ (s.holdover = true → t.ntu = n
          ∧ t.regN 0x0200005C = min (2 ^ 32 - 1) (s.regN 0x0200005C + 1))
      ∧ (s.fld 0x0200002C 0 0 = 1 → s.holdover = false →
          let si := satInt 48 (n.s + (s.fld 0x02000020 15 0 : Int) * v.toInt)
          let d := -(rneInt ((s.fld 0x02000020 31 16 : Int) * v.toInt + si) 16)
          t.ntu.s = si ∧ t.ntu.d = max (-429497) (min 429497 d) ∧ t.ntu.clock = n.clock ∧ t.ntu.step = n.step
            ∧ (d < -429497 ∨ 429497 < d → bitOf (t.regN 0x02000004) 2 = true)
            ∧ (-429497 ≤ d → d ≤ 429497 → t.regs = s.regs)))
    ∧ (s.accepts src 0x0200002C v →
        (bitOf v.toNat 1 = true → ∃ t, exec (.servoClear src v) s = .next t ∧ wrote t ∧ t.ntu.s = 0 ∧ t.ntu.d = 0
          ∧ t.ntu.clock = n.clock)
        ∧ (bitOf v.toNat 2 = true → ∃ t, exec (.resume src v) s = .next t ∧ wrote t ∧ t.holdover = false
          ∧ t.fld 0x0200002C 0 0 = bitsOf v.toNat 0 0))
    ∧ (s.accepts src 0x02000018 v → ∃ t, exec (.ntuStep src v) s = .next t ∧ wrote t ∧ t.regs = s.regs
        ∧ t.ntu = { n with step := n.step + v.toInt })
    ∧ (s.accepts src (aLaunch i 4) v → ∃ t, exec (.launchArm src i v) s = .next t ∧ wrote t
        ∧ (∀ j, j ≠ i.val → t.launch j = s.launch j) ∧ t.ntu.clock = n.clock
        ∧ (bitOf v.toNat 31 = true → (t.launch i).armed = true
            ∧ (t.launch i).due = (bitOf v.toNat 30 || decide (s.launchAhead i < 0))
            ∧ t.regN (aLaunch i 0xC) = (if bitOf v.toNat 30 = false ∧ s.launchAhead i < 0 then 2 else 0)
            ∧ bitOf (t.regN (aLaunch i 4)) 31 = true)
        ∧ (bitOf v.toNat 31 = false → t.launch i = s.launch i))
    ∧ (∀ (k : Fin 4) (f : EthFrame) (pos tr : Nat), s.hostUp = true → (s.hport k).up = true → f.fcsOk = true →
        s.ptpTransport k f = some tr →
        (s.ptpOk k f tr = false ∨ 64 ≤ n.used ∧ s.ptpMaster f.payload = s →
          exec (.ptpReceive k f pos) s = .next (s.count 0x02000058 1))
        ∧ (s.ptpOk k f tr = true → n.used < 64 →
          let a := 0x02010000 + 0x200 * s.fld 0x02000050 5 0
          ∃ t, exec (.ptpReceive k f pos) s = .next t
            ∧ t = { s with regs := t.regs, ntu := t.ntu, mem := t.mem, bar := t.bar }
            ∧ t.ntu.used = n.used + 1 ∧ t.fld 0x02000050 5 0 = (s.fld 0x02000050 5 0 + 1) % 64
            ∧ t.memWord a * 2 ^ 32 + t.memWord (a + 4) = ((s.stamp pos - s.ntuCorr 1) % (2 ^ 64 : Int)).toNat
            ∧ t.bytesAt (a + 0x100) f.raw.length = f.raw
            ∧ (∀ b, b < a ∨ a + 0x100 + f.raw.length ≤ b → t.byteAt b = s.byteAt b)
            ∧ (ptpType f.payload = 0 → s.fromMaster f.payload = true → s.lastSync ≤ s.ticks → t.lastSync = s.ticks)
            ∧ ((ptpType f.payload = 0 ∨ ptpType f.payload = 0xB) → s.fromMaster f.payload = false → t.holdover = true)))
    ∧ (let ms := s.fld 0x0200003C 15 0
      (ms ≠ 0 → s.ntuWorks = true → s.lastSync + 1000000 * ms ≤ s.ticks → s.holdover = false →
        ∃ t, exec .holdoverTimeout s = .next t ∧ t = { s with regs := t.regs, ntu := t.ntu, bar := t.bar }
          ∧ t.holdover = true ∧ bitOf (t.regN 0x02000004) 1 = true ∧ t.ntu.clock = n.clock)
      ∧ (ms = 0 ∨ s.ntuWorks = false ∨ s.ticks < s.lastSync + 1000000 * ms → exec .holdoverTimeout s = .next s))
    ∧ (s.mode ≠ .reset → (s.launch i).armed = true → (s.launch i).due = false →
        (s.launchAhead i ≤ 0 → ∃ t, exec (.launchDue i) s = .next t ∧ t = { s with ntu := t.ntu }
          ∧ t.launch i = ⟨true, true⟩ ∧ (∀ j, j ≠ i.val → t.launch j = s.launch j) ∧ t.ntu.clock = n.clock)
        ∧ (0 < s.launchAhead i → exec (.launchDue i) s = .next s))
    ∧ ((s.ntuWorks = true → s.frame % 2 ^ 20 = 0 → n.lastPair ≠ some s.frame →
        let k := if n.pairSeq = 0 then 0 else (s.fld 0x02000060 3 0 + 1) % 16
        let a := 0x02000100 + 0x20 * k
        ∃ t, exec .pairLatch s = .next t ∧ t = { s with regs := t.regs, ntu := t.ntu }
          ∧ t.reg64 a = s.frame % 2 ^ 64 ∧ t.regN (a + 8) = n.clock.toNat / 2 ^ 32 ∧ t.regN (a + 12) = n.clock.toNat % 2 ^ 32
          ∧ t.regN (a + 16) = n.pairSeq % 65536 ∧ t.fld 0x02000060 3 0 = k ∧ t.ntu.pairSeq = n.pairSeq + 1)
      ∧ (s.frame % 2 ^ 20 ≠ 0 ∨ s.ntuWorks = false → exec .pairLatch s = .next s))

/-- R496, R518, R520, R525, R526, R528, R530, R532. NV_DIE_WRITE ends the write in progress and begins the next (log entry 45).
That a STORE takes its records when the die takes it is the model's choice (log entry 43), and so are the length of a step of a
write (log entry 45) and the place of an image in its slot (log entry 7). -/
def Obligations.PlatformRows : Prop :=
  ∀ (s : State) (src : Src) (v : Word) (b : Fin 64) (ok : Bool),
    let r := s.bar
    (s.accepts src (aBias b 0x30) v → ∃ t, exec (.nvStore src b v) s = .next t
      ∧ t = { s with regs := t.regs, bar := t.bar, host := t.host, spi := t.spi }
      ∧ (bitOf v.toNat 0 = true → s.fld (aBias b 0x30) 1 1 = 0 →
          t.bar = { r with stores := r.stores ++ [b.val] } ∧ t.fld (aBias b 0x30) 1 1 = 1)
      ∧ (bitOf v.toNat 0 = false ∨ s.fld (aBias b 0x30) 1 1 = 1 → t.bar = r ∧ t.regs = s.regs))
    ∧ (s.accepts src 0x03000C00 v → ∃ t, exec (.nvCmd src v) s = .next t
        ∧ t = { s with regs := t.regs, bar := t.bar, host := t.host, spi := t.spi }
        ∧ (bitOf v.toNat 31 = true → t.bar = { r with page := some v } ∧ t.fld 0x03000C04 0 0 = 1)
        ∧ (bitOf v.toNat 31 = false → t.bar = r ∧ t.regs = s.regs))
    ∧ (s.accepts src 0x03000818 v → ∃ t, exec (.taiRef src v) s = .next t
        ∧ t = { s with regs := t.regs, bar := t.bar, host := t.host, spi := t.spi } ∧ t.reg 0x03000818 = v
        ∧ t.bar = { r with tai := some (s.regN 0x03000810 + bitsOf (s.regN 0x03000814) 15 0 * 2 ^ 32,
            bitsOf (s.regN 0x03000814) 25 16, r.clockNs - (s.ns - v).toInt) })
    ∧ (s.baristaRuns = true → r.write = none →
      (∀ x rest, r.queue = x :: rest → (r.stores = [] ∨ r.streak < 8) → x.clear = none → recPerm x.code = false →
        let head := s.regN 0x03000408
        let l := recBytes x (s.regN 0x03000404) (sget 0 r.suppressed x.code) false
        ∃ t, exec (.nvDieWrite ok) s = .next t ∧ t = { s with mem := t.mem, bar := t.bar }
          ∧ t.bar = { r with
              queue := rest, streak := r.streak + 1, suppressed := t.bar.suppressed,
              write := some (.record head l false none false), writeAt := s.ticks }
          ∧ t.byteAt (aRec head + 63) = 0 ∧ ∀ a, a ≠ aRec head + 63 → t.byteAt a = s.byteAt a)
      ∧ (∀ rest, r.stores = b.val :: rest → (r.queue = [] ∨ 8 ≤ r.streak) → exec (.nvDieWrite ok) s
          = .next { s with bar := { r with
              stores := rest, streak := 0, writeAt := s.ticks,
              write := some (.store b (BitVec.ofNat 22 (s.regN (aBias b 0x28))) (BitVec.ofNat 22 (s.regN (aBias b 0x2C)))) } })
      ∧ (∀ w, r.queue = [] → r.stores = [] → r.page = some w → exec (.nvDieWrite ok) s
          = .next { s with bar := { r with
              page := none, streak := 0, writeAt := s.ticks, write := some (.page w (s.bytesAt 0x03001000 4096)) } })
      ∧ (r.queue = [] → r.stores = [] → r.page = none → exec (.nvDieWrite ok) s = .next s))
    ∧ (∀ slot l perm clear, r.write = some (.record slot l perm clear false) → l.length = 64 → r.writeAt < s.ticks →
        r.writeAt + 50000 ≤ s.ticks → s.midWrite = { s with mem := s.midWrite.mem, bar := { r with
            write := some (.record slot l perm clear true), writeAt := s.ticks } }
          ∧ s.midWrite.bytesAt (aRec slot) 63 = l.take 63 ∧ (∀ a, a < aRec slot ∨ aRec slot + 63 ≤ a →
            s.midWrite.byteAt a = s.byteAt a))
    ∧ (∀ slot l perm clear half, r.write = some (.record slot l perm clear half) →
        let head := s.regN 0x03000408
        ∃ u : State, exec (.nvDieWrite ok) s = .next u.beginWrite
          ∧ u = { s with regs := u.regs, mem := u.mem, bar := { r with write := none }, host := u.host }
          ∧ u.bytesAt (aRec slot) l.length = l
          ∧ (∀ a, a < aRec slot ∨ aRec slot + l.length ≤ a → u.byteAt a = s.byteAt a)
          ∧ u.regN 0x03000404 = (leAt l 0 4 + 1) % 2 ^ 32
          ∧ (perm = true → u.regN 0x0300040C = (s.regN 0x0300040C + 1) % 2 ^ 32 ∧ u.regN 0x03000408 = head)
          ∧ (perm = false → u.regN 0x03000408 = (if head = 9215 then 1024 else (head + 1) % 2 ^ 32)
              ∧ u.regN 0x0300040C = s.regN 0x0300040C)
          ∧ (clear = none → u.host = s.host)
          ∧ ∀ k, clear = some k → s.answers u k .ok []
              ∧ u.fld 0x03000400 2 2 = b2n (r.queue.any (fun x => x.clear.isSome)))
    ∧ (∀ p f, r.write = some (.store b p f) →
        ∃ u : State, exec (.nvDieWrite ok) s = .next u.beginWrite
          ∧ u = { s with regs := u.regs, biases := u.biases, bar := { r with write := none } }
          ∧ u.fld (aBias b 0x30) 1 1 = 0 ∧ (u.bias b).nvPwrup = p ∧ (u.bias b).nvFault = f
          ∧ (u.bias b).live = (s.bias b).live ∧ ∀ c, c ≠ b.val → u.bias c = s.bias c)
    ∧ (∀ w l, r.write = some (.page w l) →
        ∃ u : State, exec (.nvDieWrite ok) s = .next u.beginWrite
          ∧ u = { s with regs := u.regs, bar := u.bar, freeCtr := u.freeCtr }
          ∧ u.bar.write = none ∧ u.fld 0x03000C04 0 0 = b2n r.page.isSome
          ∧ (ok = false → u.bar = { r with write := none } ∧ u.fld 0x03000C04 1 1 = 1)
          ∧ (ok = true → bitsOf w.toNat 27 24 = 1 → u.bar.imgA = u.imageAt 0x200000 ∧ ∀ k, k < l.length →
              sget 0 u.bar.nv (0x200000 + 4096 * bitsOf w.toNat 23 0 + k) = l.getD k 0))
    ∧ ∀ (code : Byte) (p : Nat), s.tokenPeriod code.toNat = some p → rateCodes.contains code.toNat = true →
      s.mode ≠ .reset →
      (sget 0 r.tokenAt code.toNat + p ≤ s.ticks → ∃ t, exec (.tokenRefill code) s = .next t ∧ t = { s with bar := t.bar }
        ∧ sget 32 t.bar.tokens code.toNat
            = min (s.fld (0x03000500 + 4 * code.toNat) 15 8) (sget 32 r.tokens code.toNat + 1)
        ∧ sget 0 t.bar.tokenAt code.toNat = sget 0 r.tokenAt code.toNat + p
        ∧ ∀ c, c ≠ code.toNat → sget 32 t.bar.tokens c = sget 32 r.tokens c)
      ∧ (s.ticks < sget 0 r.tokenAt code.toNat + p → exec (.tokenRefill code) s = .next s)

/-- R485 to R490, R502 to R509. A shutdown raised within a frame works it again from its boundary, with the sample in
it (log entry 25). -/
def Obligations.BiasAndThermal : Prop :=
  ∀ (s : State) (b : Fin 64),
    let x := s.bias b
    let slew := decide (s.fld (aBias b 0) 4 4 = 1)
    let step := s.fld (aBias b 0x10) 19 0
    let toward (y : BitVec 20) : BitVec 20 :=
      let d := y.toInt - x.live.toInt
      if x.range = 2 ∨ slew = false ∨ d.natAbs ≤ step then y
      else BitVec.ofInt 20 (x.live.toInt + (if 0 < d then (step : Int) else -step))
    let only (t : State) : Prop := t = { s with regs := t.regs, biases := t.biases } ∧ ∀ c, c ≠ b.val → t.bias c = s.bias c
    let shows (t : State) : Prop := x.coming = [] → ∀ f, (t.bias b).shown f =
      if f < s.ticks + (if x.range = 2 ∧ bitsOf (x.live ^^^ (t.bias b).live).toNat 19 14 ≠ 0 then 232 else 32) then x.ball
      else (t.bias b).range ++ (t.bias b).live
    (s.biasTicks b = false ∨ x.ticked = some s.ticks ∨ (x.stage = 2 ∧ s.ticks < x.holdFrom + 50000) →
        exec (.biasTick b) s = .next s)
    ∧ (s.biasTicks b = true → x.ticked ≠ some s.ticks → (x.stage = 2 → x.holdFrom + 50000 ≤ s.ticks) →
        (s.rangeLeaves b = false →
          let y := BitVec.ofInt 20 (satInt 20 (s.biasTarget b s.frame))
          ∃ t, exec (.biasTick b) s = .next t ∧ only t ∧ shows t ∧ (t.bias b).live = toward y ∧ (t.bias b).range = x.range
            ∧ (t.bias b).ticked = some s.ticks ∧ t.fld (aBias b 0x20) 0 0 = b2n (decide (toward y ≠ y))
            ∧ (s.biasTarget b s.frame ≠ satInt 20 (s.biasTarget b s.frame) →
                bitOf (t.regN (aBias b 0x20)) 3 = true))
        ∧ (s.rangeLeaves b = true → ∃ t, exec (.biasTick b) s = .next t ∧ only t ∧ shows t ∧ (t.bias b).live = toward 0
            ∧ t.fld (aBias b 0x20) 0 0 = b2n (decide (toward 0 ≠ 0))
            ∧ (toward 0 = 0 → (t.bias b).range = s.biasRange b ∧ (t.bias b).stage = 2 ∧ (t.bias b).holdFrom = s.ticks)
            ∧ (toward 0 ≠ 0 → (t.bias b).range = x.range ∧ (t.bias b).stage = 1)))
    ∧ ((x.stage = 2 → x.holdFrom + 50000 ≤ s.ticks → ∃ t, exec (.rangeHoldEnd b) s = .next t
          ∧ t = { s with biases := t.biases } ∧ t.bias b = { x with stage := 3 } ∧ ∀ c, c ≠ b.val → t.bias c = s.bias c)
      ∧ (x.stage ≠ 2 ∨ s.ticks < x.holdFrom + 50000 → exec (.rangeHoldEnd b) s = .next s))
    ∧ (∀ (temps : List Int) (fail : BitVec 48), s.power.aon = true →
        (s.mode = .reset ∨ (s.frame % 125000 = 0 ∧ s.therm.sampled ≠ some s.ticks) →
          let hot := s.fld 0x03000000 1 0 < 3 ∧ (s.takeSample temps fail).fld 0x03000000 1 0 = 3
          (hot → (s.mode = .ready ∨ s.mode = .sleep) → ∃ t, exec (.thermalSample temps fail) s = .next t ∧ t.mode = .safe)
          ∧ (s.base = none ∨ ¬ hot → ∃ t, exec (.thermalSample temps fail) s = .next t
            ∧ (∀ k, k < 48 → s.sensorFailed k = false →
              ((fail.getLsbD k = true ∨ temps.getD k 0 < -880 ∨ 2400 < temps.getD k 0) → t.sensorFailed k = true)
              ∧ (fail.getLsbD k = false → -880 ≤ temps.getD k 0 → temps.getD k 0 ≤ 2400 → t.sensorFailed k = false
                  ∧ sbitsOf (t.regN (0x03000100 + 4 * k)) 15 0 = temps.getD k 0))
            ∧ (temps.length = 48 → fail = 0 → (∀ k, k < 48 → s.sensorFailed k = false) →
                (∀ y ∈ temps, -880 ≤ y ∧ y ≤ 2400) →
                let e := temps.foldl max (-880)
                let above := (List.range 3).map (fun i =>
                  if ([1568, 1648, 1792] : List Int).getD i 0 ≤ e then s.therm.above.getD i 0 + 1 else 0)
                let below := (List.range 3).map (fun i =>
                  if e < ([1568, 1648, 1792] : List Int).getD i 0 - 48 then s.therm.below.getD i 0 + 1 else 0)
                t.therm.above = above ∧ t.therm.below = below
                  ∧ t.fld 0x03000000 1 0 = thermLevel' above below (s.fld 0x03000000 1 0))))
        ∧ (s.mode ≠ .reset → s.frame % 125000 ≠ 0 → exec (.thermalSample temps fail) s = .next s))
    ∧ (∀ e, s.therm.entry = some e →
        let at_ := s.frame + 2 ^ 20 + 64
        let r := s.roundAt at_
        let marks := s.isBoundary at_ = true ∧ s.mode ≠ .reset ∧ 2 ≤ s.fld 0x03000000 1 0 ∧ s.therm.stopped = false
          ∧ ((s.ticks : Int) < e + 10000000 ∨ s.therm.syncrSeen = true)
          ∧ (∀ l, s.therm.lastSkip = some l → l + s.fld 0x03000004 7 0 ≤ r) ∧ at_ ∉ s.therm.chosen
          ∧ r ∉ s.therm.skipped
        (marks → ∃ t, exec .roundMark s = .next t ∧ t.therm.skipped = r :: s.therm.skipped ∧ t.therm.lastSkip = some r
          ∧ t.regN 0x03000018 = min (2 ^ 32 - 1) (s.regN 0x03000018 + 1) ∧ t.mode = s.mode ∧ t.mem = s.mem)
        ∧ (¬ marks → ∃ t, exec .roundMark s = .next t ∧ t = { s with therm := t.therm }
          ∧ t.therm.skipped = s.therm.skipped ∧ t.therm.lastSkip = s.therm.lastSkip)
        ∧ (e + 10000000 ≤ (s.ticks : Int) → s.therm.syncrSeen = false → s.therm.stopped = false →
          ∃ t, exec .noSyncr s = .next t ∧ t = { s with regs := t.regs, therm := t.therm } ∧ t.therm.stopped = true
            ∧ bitOf (t.regN 0x03000000) 7 = true)
        ∧ ((s.ticks : Int) < e + 10000000 ∨ s.therm.syncrSeen = true → exec .noSyncr s = .next s))
    ∧ ∀ f, s.modes.shutdownAt = some f →
      (f ≤ s.frame → s.mode ≠ .reset → s.mode ≠ .safe → ∃ t, exec .thermShutdown s = .next t ∧ t.mode = .safe
        ∧ bitOf (t.regN 0x03000000) 6 = true ∧ t.modes.shutdownAt = none
        ∧ ((∀ x, s.base = some x → x.mode ≠ .safe) → t.fld 0x40 15 8 = 0x02)
        ∧ ∀ a, t.byteAt a = (s.undo id).byteAt a)
      ∧ (s.frame < f → exec .thermShutdown s = .next s)

/-- R203, R207, R398 to R403, R408, R411, R415, R418, R419, R423, R424, R428. A checkpoint that
cannot be corrected has no scope of its own in R127 (log entry 63). -/
def Obligations.MicroRows : Prop :=
  ∀ (s : State) (cl : Fin 16) (r : Routine) (w : BitVec 192),
    let m := s.me cl
    let n := w.toNat
    let q := r.req.sequencer cl
    let others (t : State) : Prop := (∀ c, c ≠ cl.val → t.me c = s.me c) ∧ (∀ k, k ≠ q → t.seq k = s.seq k)
    let up : Prop := s.mode = .run ∧ s.contained cl = false
    let running : Prop := up ∧ m.hostReq = none ∧ m.run = some r ∧ r.nextWord ≤ s.frame ∧ r.events.length ≤ 64
      ∧ r.updates.length ≤ 16 ∧ r.loads = []
    let quiet : Prop := bitOf n 156 = false ∧ bitOf n 126 = false ∧ bitsOf n 76 75 = 0
      ∧ (bitOf n 0 = true ∨ (bitsOf n 52 51 = 0 ∧ bitsOf n 36 35 = 0))
    let next := if branchHolds (bitsOf n 177 172) r.regs then bitsOf n 171 158 else bitsOf n 191 178
    (running → r.vendor = none → quiet → bitsOf n 96 92 = 2 → bitOf n 157 = false → bitOf n 1 = false → 12288 ≤ next →
      let a := r.regs.get (bitsOf n 86 82)
      let b : Word := if bitOf n 0 then BitVec.ofNat 32 (bitsOf n 14 11 * 2 ^ 28 + bitsOf n 52 25)
        else r.regs.get (bitsOf n 81 77)
      let d := bitsOf n 91 87
      ∃ t x, exec (.microword cl w .clean .clean) s = .next t
        ∧ t = { s with mes := t.mes, seqs := t.seqs, freeCtr := t.freeCtr } ∧ others t
        ∧ t.seq q = (if r.req.host then s.seq q else { s.seq q with state := 1 })
        ∧ (t.me cl).run = some x ∧ x.pc.toNat = next ∧ x.nextWord = s.frame + 1 + bitsOf n 24 15
        ∧ (∀ i, x.regs.get i = if i = d ∧ d ≠ 0 then a + b else r.regs.get i)
        ∧ x.regs.tls = r.regs.tls ∧ x.regs.z = decide (a + b = 0) ∧ x.regs.n = (a + b).msb
        ∧ x.regs.c = decide (2 ^ 32 ≤ a.toNat + b.toNat)
        ∧ x.events = r.events ∧ x.updates = r.updates ∧ x.check = r.check ∧ x.resume = r.resume)
    ∧ (running → r.vendor = none → quiet → bitsOf n 96 92 = 0 → bitOf n 1 = true → r.req.host = false →
        r.events = [] → r.updates = [] → r.syncrs = [] →
        ∃ t, exec (.microword cl w .clean .clean) s = .next t
          ∧ t = { s with mes := t.mes, seqs := t.seqs, freeCtr := t.freeCtr } ∧ others t
          ∧ (t.me cl).run = none ∧ (t.me cl).freeAt = s.frame + 1
          ∧ t.seq q = { s.seq q with tl := r.regs.tls, pc := (s.seq q).pc + 1, wait := .none, state := 1,
                                     nextIssue := s.frame + 1 })
    ∧ (running → r.req.index = 2 → r.vendor.isSome = true → r.req.host = false →
        let k := (r.regs.get 1 + r.regs.get 5).toNat
        ∃ t, exec (.microword cl w .clean .clean) s = .next t
          ∧ t = { s with mes := t.mes, seqs := t.seqs, trks := t.trks } ∧ others t ∧ (t.me cl).run = none
          ∧ (t.seq q).tl = r.regs.tls + BitVec.ofNat 64 k ∧ (t.seq q).pc = (s.seq q).pc + 1
          ∧ (t.trk cl).wins = (s.trk cl).wins ++ (if k = 0 then []
              else [⟨(r.regs.get 6).setWidth 8, r.req.targets, r.regs.tls.toNat, r.regs.tls.toNat + k⟩]))
    ∧ (running → ∃ t, exec (.microword cl w .uncorrectable .clean) s = .next t ∧ t.mode = .safe
        ∧ ((∀ x, s.base = some x → x.mode ≠ .safe) → t.fld 0x40 15 8 = 0x03)
        ∧ ∀ a, t.byteAt a = (s.undo id).byteAt a)
    ∧ (up → m.run = none → m.again = none → ∀ (x : MeReq) (rest : List MeReq) (ecc : Ecc),
        (m.hostReq = none → m.reqs = x :: rest → x.issue + 2 ≤ s.frame →
          ((∀ y ∈ m.reqs, s.entryValid y.index = true) → m.freeAt ≤ s.frame →
            (∃ t y, exec (.routineStart cl .clean) s = .next t ∧ t = { s with mes := t.mes }
              ∧ (t.me cl).reqs = rest ∧ (t.me cl).run = some y ∧ y.req = x ∧ y.nextWord = s.frame ∧ y.check = y.regs
              ∧ (x.host = false → y.regs.tls = x.tl ∧
                  ∀ i, i < 32 → y.regs.get i = if 1 ≤ i ∧ i ≤ 7 then x.w.getD (i - 1) 0 else 0)
              ∧ (∀ i, i < 4 → y.regs.tau (i + 1) = x.t.getD i 0)
              ∧ y.regs.z = false ∧ y.regs.n = false ∧ y.regs.c = false ∧ y.resume = y.pc
              ∧ y.pc = BitVec.ofNat 14 (s.entryWord x.index) ∧ (y.vendor = none ↔ 3 ≤ x.index)
              ∧ (128 ≤ x.index → s.entryWord x.index = s.regN (0x90080000 + 4 * x.index))
              ∧ ∀ c, c ≠ cl.val → t.me c = s.me c)
            ∧ ∃ t, exec (.routineStart cl .uncorrectable) s = .next t ∧ t.mode = .safe)
          ∧ (rest = [] → s.entryValid x.index = false → x.index < 256 →
            ∃ t, exec (.routineStart cl .clean) s = .next t
            ∧ t = { s with mes := t.mes, seqs := t.seqs, regs := t.regs } ∧ (t.me cl).reqs = []
            ∧ (t.me cl).run = none ∧ bitOf (t.regN (aCl cl 0x1000)) 6 = true
            ∧ t.fld (aCl cl 0x1000) 23 16 = x.index
            ∧ t.seq (x.sequencer cl) = (s.seq (x.sequencer cl)).halted
            ∧ ∀ k, k ≠ x.sequencer cl → t.seq k = s.seq k))
        ∧ (m.hostReq = none → m.reqs = x :: rest → (∀ y ∈ m.reqs, s.entryValid y.index = true) →
            (s.frame < x.issue + 2 ∨ s.frame < m.freeAt) → exec (.routineStart cl ecc) s = .next s)
        ∧ (m.hostReq = some x → x.host = true → (∀ y ∈ x :: m.reqs, s.entryValid y.index = true) → x.issue + 2 ≤ s.frame →
            m.freeAt ≤ s.frame → ∃ t y, exec (.routineStart cl .clean) s = .next t ∧ t = { s with mes := t.mes }
              ∧ (t.me cl).hostReq = none ∧ (t.me cl).run = some y ∧ y.req = x ∧ (t.me cl).reqs = m.reqs
              ∧ (∀ i, i < 4 → y.regs.get (i + 1) = s.reg (aCl cl (0x1014 + 4 * i)))
              ∧ y.regs.tls = BitVec.ofNat 64 s.frame + x.tl))
    ∧ (∀ f, up → m.run = none → m.hostReq = none → m.again = some (r, f) →
        (f ≤ s.frame → (∀ ecc, ecc ≠ .uncorrectable → ∃ t y, exec (.restart cl ecc) s = .next t
            ∧ t = { s with mes := t.mes, regs := t.regs }
            ∧ (t.me cl).run = some y ∧ (t.me cl).again = none ∧ y.regs = r.check ∧ y.pc = r.resume ∧ y.events = []
            ∧ y.updates = [] ∧ y.syncrs = [] ∧ y.nextWord = s.frame ∧ y.rerun = true
            ∧ t.regN (aCl cl 0x100C) = min (2 ^ 32 - 1) (s.regN (aCl cl 0x100C) + 1))
          ∧ ∃ t, exec (.restart cl .uncorrectable) s = .next t ∧ (t.me cl).run = none ∧ (t.me cl).again = none
            ∧ t.seq q = (s.seq q).halted ∧ t.mode = s.mode ∧ t.mem = s.mem)
        ∧ (s.frame < f → ∀ ecc, exec (.restart cl ecc) s = .next s))

/-- R263, R269 to R272, R277 to R280, for accesses without a memory error, and R264 for corrected ones; R435 for the shots. -/
def Obligations.PlaybackRows : Prop :=
  ∀ (s : State) (cl : Fin 16) (tgt : Fin 228) (p : Play),
    let k := tkey cl.val tgt.val
    let n := granBytes p.entry.cls
    let fin := p.fin
    let others (t : State) : Prop := ∀ j, j ≠ k → t.playOn j = s.playOn j
    let slice := s.bytesAt (aWave cl.val (16 * p.entry.base + n * p.next)) n
    let at_ := p.base + n * p.next
    (s.playOn k = some p → p.next < p.entry.len → p.t + 4 * p.next ≤ s.ticks → s.ticks < fin →
      (p.entry.cls = 2 → ∀ ecc, ∃ t, exec (.granuleFetch cl tgt ecc) s = .next t ∧ t = { s with plays := t.plays }
        ∧ others t ∧ t.playOn k = some { p with next := p.next + 1 })
      ∧ (p.entry.cls ≠ 2 → p.entry.stream = false →
        (∃ t, exec (.granuleFetch cl tgt .clean) s = .next t ∧ t = { s with plays := t.plays }
          ∧ others t ∧ t.playOn k = some { p with next := p.next + 1, env := granSamples p.entry.cls slice })
        ∧ (∀ more, ∃ t, exec (.granuleFetch cl tgt (.corrected more)) s = .next t ∧ t = { s with plays := t.plays, regs := t.regs }
          ∧ t.playOn k = some { p with next := p.next + 1, env := granSamples p.entry.cls slice }
          ∧ t.regN (aCl cl.val 0xC38) = min (2 ^ 32 - 1) (s.regN (aCl cl.val 0xC38) + min (n / 8) (1 + more))
          ∧ ∀ a, a ≠ aCl cl.val 0xC38 → t.reg a = s.reg a))
      ∧ (p.entry.cls ≠ 2 → p.entry.stream = true → p.lost = false →
        (∀ b : List Byte, b.length = n → (∀ i, i < n → sget none (s.cl cl.val).ring (at_ + i) = some (b.getD i 0)) →
          ∃ t, exec (.granuleFetch cl tgt .clean) s = .next t ∧ t = { s with plays := t.plays, clusters := t.clusters }
            ∧ others t ∧ t.playOn k = some { p with next := p.next + 1, env := granSamples p.entry.cls b }
            ∧ t.cl cl.val = { s.cl cl.val with ring := (t.cl cl.val).ring } ∧ (∀ c, c ≠ cl.val → t.cl c = s.cl c)
            ∧ ∀ a, sget none (t.cl cl.val).ring a
                = if at_ ≤ a ∧ a < at_ + n then none else sget none (s.cl cl.val).ring a)
        ∧ ((∃ i, i < n ∧ sget none (s.cl cl.val).ring (at_ + i) = none) →
          ∃ t, exec (.granuleFetch cl tgt .clean) s = .next t
            ∧ t = { s with plays := t.plays, clusters := t.clusters, regs := t.regs }
            ∧ others t ∧ t.playOn k = some { p with next := p.next + 1, env := List.replicate 8 ⟨0, 0⟩ }
            ∧ t.regN (aCl cl.val 0xC14) = min (2 ^ 32 - 1) (s.regN (aCl cl.val 0xC14) + 1)
            ∧ t.fld (aCl cl.val 0xC08) 0 0 = 1
            ∧ (s.fld (aCl cl.val 0xC08) 0 0 = 0 → t.regN (aCl cl.val 0xC20) = s.numberAt (p.t + 4 * p.next) % 2 ^ 32)
            ∧ (s.fld (aCl cl.val 0xC08) 0 0 = 1 → t.reg (aCl cl.val 0xC20) = s.reg (aCl cl.val 0xC20))
            ∧ (t.cl cl.val).missing = (s.cl cl.val).missing ++ [s.numberAt (p.t + 4 * p.next)]
            ∧ (s.fld (aCl cl.val 0xC00) 8 8 = 0 → (t.cl cl.val).stopAt = (s.cl cl.val).stopAt)
            ∧ (s.fld (aCl cl.val 0xC00) 8 8 = 1 → (s.cl cl.val).stopAt = none → (t.cl cl.val).stopAt =
                match s.boundaryFrom (s.frame + 1) with
                | some b => some b
                | none => some (s.frame + 1)))))
    ∧ (∀ ecc, s.playOn k = none ∨ (s.playOn k = some p ∧ (p.entry.len ≤ p.next ∨ s.ticks < p.t + 4 * p.next ∨ fin ≤ s.ticks)) →
        exec (.granuleFetch cl tgt ecc) s = .next s)
    ∧ (s.playOn k = some p → p.selected = false → p.t + 4 * p.entry.len ≤ s.ticks + 4 →
      let ready := s.dbitReady p.entry.dbit p.entry.rc
      let one := (s.dbitSeen p.entry.dbit).value
      let late := p.entry.condEn && !ready
      let pick := if p.entry.condEn && ready && one then some p.entry.csucc
        else if p.entry.succEn then some p.entry.succ else none
      let s08 := aCl cl.val 0xC08
      ∃ t, exec (.successorSelect cl tgt .clean) s = .next t
        ∧ t = { s with plays := t.plays, regs := t.regs, clusters := t.clusters } ∧ others t
        ∧ (∀ c, c ≠ cl.val → t.cl c = s.cl c)
        ∧ (late = false → t.clusters = s.clusters)
        ∧ (late = true → t.fld s08 1 1 = 1 ∧ (t.cl cl.val).lateSucc = (s.cl cl.val).lateSucc ++ [s.numberAt (p.t + 4 * p.entry.len)]
            ∧ t.regN (aCl cl.val 0xC18) = min (2 ^ 32 - 1) (s.regN (aCl cl.val 0xC18) + 1))
        ∧ (pick = none → t.playOn k = some { p with selected := true })
        ∧ ∀ e, pick = some e →
          (s.entryPlays (s.entry e) cl.val tgt.val p.entry.condEn = true →
            t.playOn k = some { p with selected := true, succ := some (s.entry e) } ∧ (late = false → t.regs = s.regs))
          ∧ (s.entryPlays (s.entry e) cl.val tgt.val p.entry.condEn = false →
            t.playOn k = some { p with selected := true } ∧ t.fld s08 2 2 = 1
            ∧ t.regN (aCl cl.val 0xC1C) = min (2 ^ 32 - 1) (s.regN (aCl cl.val 0xC1C) + 1)))
    ∧ (∀ ecc, s.playOn k = some p → p.selected = true ∨ s.ticks + 4 < p.t + 4 * p.entry.len →
        exec (.successorSelect cl tgt ecc) s = .next s)
    ∧ (s.playOn k = some p →
      (s.ticks < fin → exec (.successorStart cl tgt) s = .next s)
      ∧ (fin ≤ s.ticks → ∃ t, exec (.successorStart cl tgt) s = .next t ∧ others t
        ∧ t = { s with plays := t.plays, clusters := t.clusters, markers := t.markers }
        ∧ (p.succ = none → t.playOn k = none ∧ t.markers = s.markers)
        ∧ ∀ e, p.succ = some e → t.playOn k = some
            { seq := p.seq, entry := e, t := fin, slot := p.slot, scale := p.scale, amp := p.amp, next := 0,
              base := (s.cl cl.val).rd, succ := none, selected := false, lost := false, env := [],
              phase := 0, upTo := none }))
    ∧ ((s.cl cl.val).stopAt = none ∨ (∃ b, (s.cl cl.val).stopAt = some b ∧ s.frame < b) →
        exec (.carafeStop cl) s = .next s)
    ∧ ∀ b, (s.cl cl.val).stopAt = some b → b ≤ s.frame → ∃ t, exec (.carafeStop cl) s = .next t
      ∧ t = { s with seqs := t.seqs, mes := t.mes, plays := t.plays, clusters := t.clusters,
                     trks := t.trks, tqueues := t.tqueues, commits := t.commits, slots := t.slots, markers := t.markers, regs := t.regs }
      ∧ (∀ q, q / 8 = cl.val → t.seq q = (s.seq q).halted) ∧ (∀ q, q / 8 ≠ cl.val → t.seq q = s.seq q)
      ∧ (∀ j, j / 256 = cl.val → t.tq j = .init) ∧ (∀ j, j / 256 ≠ cl.val → t.tq j = s.tq j)
      ∧ (∀ j : Fin 228, t.playOn (tkey cl.val j.val) = none) ∧ (∀ j, j / 256 ≠ cl.val → t.playOn j = s.playOn j)
      ∧ (∀ x, x ∈ t.commits ↔ x ∈ s.commits ∧ (x.host.isSome = true ∨ x.sequencer / 8 ≠ cl.val))
      ∧ (t.me cl.val).reqs = [] ∧ (t.me cl.val).run = none ∧ (t.trk cl.val).shots = [] ∧ (∀ c, c ≠ cl.val → t.me c = s.me c)
      ∧ t.fld (aCl cl.val 0xC08) 8 8 = 1 ∧ (∀ a, a ≠ aCl cl.val 0xC08 → a ≠ aCl cl.val 0x2004 ∨ (s.trk cl.val).shots = [] →
          a ≠ aCl cl.val 0x200C ∨ (s.trk cl.val).shots = [] → t.reg a = s.reg a)
      ∧ ((∃ x ∈ (s.trk cl.val).shots, x.stretch ≠ 5) → bitOf (t.regN (aCl cl.val 0x2004)) 1 = true)
      ∧ (t.cl cl.val).stopAt = none

/-- R285, R293, R297, R299, R302 to R308, R320, R353, R374, R376, R377, R381, R383. That a code is withheld as the slot's queue
stands when it is formed, INTEGRATE_DUMP working in two frames, is the model's choice (log entry 29), and so is that FC is set
by the frame bit even where bit 1 of the code is 1 (log entry 32), and that a block counts only its frames in READY and RUN (log
entry 69). -/
def Obligations.AcquisitionRows : Prop :=
  ∀ (s : State) (i : Fin 1024) (n : Fin 32) (g : Fin 8),
    let c := i.val / 64
    let others (t : State) : Prop := ∀ j, j ≠ i.val → t.slot j = s.slot j
    (∀ (w : Win), (s.slot i.val).wins = [w] →
      let ticks := s.winTicks i.val w
      (∀ k, k ∈ ticks ↔ w.tick ≤ k ∧ k < w.tick + w.len
        ∧ s.numberAt k % 2 ^ bitsOf (s.wordAgo (aSlot i.val 0xC) (s.ticks - k)).toNat 1 0 = 0)
      ∧ (∀ p, (s.slot i.val).clears = [] →
        let age := s.posAge p
        let cfg := (s.wordAgo (aSlot i.val 0xC) age).toNat
        let hb := bitsOf cfg 1 0
        let bank := bitsOf cfg 5 5
        let tap (k : Nat) : Int :=
          sbitsOf (s.coefAt (0x40004000 + 0x10000 * (i.val / 32) + 0x200 * (i.val % 32) + 0x100 * bank + 4 * k)
            bank (aSlot i.val 0xC) 5 age).toNat 17 0
        let tapSum (f : Cpx → Int) : Int := (List.range 64).foldl (fun acc k =>
          acc + tap k * f (s.halfBandAt i.val hb (p + 8 * 2 ^ hb * bitsOf cfg 13 8 - 8 * 2 ^ hb * k))) 0
        (bitOf cfg 4 = false → s.chainAt i.val p = s.halfBandAt i.val hb p)
        ∧ (bitOf cfg 4 = true → s.chainAt i.val p = ⟨Config.firNarrow (tapSum Cpx.re), Config.firNarrow (tapSum Cpx.im)⟩))
      ∧ (w.mode = true → s.integrate i.val w =
          ⟨(ticks.map (fun k => (s.chainAt i.val (samplePos k 0)).re)).sum,
            (ticks.map (fun k => (s.chainAt i.val (samplePos k 0)).im)).sum⟩)
      ∧ (w.res = none → w.dumpAt ≤ s.ticks → s.ticks < w.codeAt → ticks ≠ [] →
        let r := report w (s.integrate i.val w)
        ∃ t, exec (.integrateDump i .clean) s = .next t ∧ t = { s with slots := t.slots, regs := t.regs } ∧ others t
          ∧ t.slot i.val = { s.slot i.val with wins := [{ w with res := some r }] }
          ∧ t.reg (aSlot i.val 0x50) = BitVec.ofInt 32 r.1 ∧ t.reg (aSlot i.val 0x54) = BitVec.ofInt 32 r.2.1
          ∧ (r.2.2 = true → t.fld (aSlot i.val 0x40) 0 0 = 1)
          ∧ (r.2.2 = false → t.reg (aSlot i.val 0x40) = s.reg (aSlot i.val 0x40))
          ∧ ∀ a, a ≠ aSlot i.val 0x40 → a ≠ aSlot i.val 0x50 → a ≠ aSlot i.val 0x54 → t.reg a = s.reg a)
      ∧ (w.res = none → s.ticks < w.dumpAt → ∀ ecc, exec (.integrateDump i ecc) s = .next s)
      ∧ (∀ (r : Int × Int × Bool) (k : Nat × Nat × Bool) (ecc : Ecc), w.res = some r → w.trk = some k → w.codeAt ≤ s.ticks →
        ∃ t, exec (.integrateDump i ecc) s = .next t ∧ t = { s with slots := t.slots, trks := t.trks } ∧ others t
          ∧ t.slot i.val = { s.slot i.val with wins := [] } ∧ (w.noCode = true → t.trks = s.trks))
      ∧ (∀ (p q : Int) (sat : Bool) (ecc : Ecc), w.res = some (p, q, sat) → w.trk = none → w.codeAt ≤ s.ticks →
        let code : BitVec 2 := if ticks = [] then 0 else s.discriminate i.val p q
        let writes := ticks ≠ [] ∧ w.cut = false ∧ w.noCode = false ∧ s.acquireBy i.val (s.numberAt (w.codeAt + 4)) = false
        let fixed : BitVec 2 := match s.frameBit i.val with
          | none => code
          | some b => if code.getLsbD 1 then code else code ^^^ (if b then 1 else 0)
        ∃ t, exec (.integrateDump i ecc) s = .next t
          ∧ t = { s with slots := t.slots, regs := t.regs, trks := t.trks, cap := t.cap, host := t.host } ∧ others t
          ∧ (t.slot i.val).wins = []
          ∧ (writes → (t.slot i.val).codes = (s.slot i.val).codes ++ [⟨w.codeAt + 4, fixed⟩])
          ∧ (¬ writes → (t.slot i.val).codes = (s.slot i.val).codes)
          ∧ (w.rd = false → (t.slot i.val).hands = (s.slot i.val).hands)
          ∧ (w.rd = true → (t.slot i.val).hands = (s.slot i.val).hands ++
              [⟨w.codeAt + 5, p, q, code, i.val, BitVec.ofNat 7 (s.winTags i.val w sat), w.t⟩])
          ∧ (ticks ≠ [] → t.reg (aSlot i.val 0x58) = code.setWidth 32)
          ∧ (w.cut = true → t.fld (aSlot i.val 0x40) 2 2 = 1)
          ∧ (w.recd = false → t.host = s.host ∧ t.cap = s.cap)
          ∧ (w.recd = true → bitOf (s.regN (0x70000100 + 4 * (i.val / 32))) (i.val % 32) = false →
              (s.slot i.val).lastRec = none → s.streaming = true → s.stagedBytes + 16 ≤ 65536 →
              t.cap = s.cap ∧ (t.slot i.val).lastRec = some s.ticks
              ∧ t.host.result.recs = s.host.result.recs ++ [(s.ticks, fullBytes w.t i.val code false
                  (decide writes && (s.frameBit i.val).isSome) (decide writes && (s.frameBit i.val).getD false)
                  (s.slot i.val).rateLoss p q (s.winTags i.val w sat))])
          ∧ (w.recd = true → bitOf (s.regN (0x70000100 + 4 * (i.val / 32))) (i.val % 32) = true →
              t.host = s.host ∧ (sget [] s.cap.merge (i.val / 32) = [] → ∃ m, sget [] t.cap.merge (i.val / 32) = [m]
                ∧ m.period = w.t / 1000 ∧ m.due = w.tick + ((w.t / 1000 + 1) * 1000 + 9000 - w.t)
                ∧ m.present = BitVec.ofNat 32 (2 ^ (i.val % 32)) ∧ m.multi = 0))))
    ∧ (∀ (k : CodeWrite) rest, (s.slot i.val).codes = k :: rest →
      (s.ticks < k.due → exec (.stateCodeWrite i) s = .next s)
      ∧ (k.due ≤ s.ticks → ∃ t, exec (.stateCodeWrite i) s = .next t
        ∧ t = { s with slots := t.slots, dbits := t.dbits, dlog := t.dlog, cap := t.cap, host := t.host, regs := t.regs }
        ∧ others t ∧ t.slot i.val = { s.slot i.val with codes := rest }
        ∧ (∀ b : Fin 2, t.dbit (2 * i.val + b.val) = { s.dbit (2 * i.val + b.val) with
            value := k.code.getLsbD b.val, valid := true, inRound := s.inRoundAt s.frame,
            tag := BitVec.ofNat 32 (s.roundAt s.frame) })
        ∧ ∀ d, d ≠ 2 * i.val → d ≠ 2 * i.val + 1 → t.dbit d = s.dbit d))
    ∧ (∀ (h : HandIn) rest, (s.slot i.val).hands = h :: rest →
      (s.ticks < h.due → exec (.handIn i) s = .next s)
      ∧ (h.due ≤ s.ticks → (s.rd c).queue.length < 16 → ∃ t, exec (.handIn i) s = .next t
        ∧ t = { s with slots := t.slots, rdsps := t.rdsps } ∧ others t ∧ t.slot i.val = { s.slot i.val with hands := rest }
        ∧ t.rd c = { s.rd c with queue := (s.rd c).queue ++ [h] } ∧ ∀ j, j ≠ c → t.rd j = s.rd j)
      ∧ (h.due ≤ s.ticks → 16 ≤ (s.rd c).queue.length → ∃ t, exec (.handIn i) s = .next t
        ∧ t = { s with slots := t.slots, regs := t.regs } ∧ t.slot i.val = { s.slot i.val with hands := rest }
        ∧ t.fld (aRd c 4) 8 8 = 1 ∧ t.regN (aRd c 0x10) = min (2 ^ 32 - 1) (s.regN (aRd c 0x10) + 1)))
    ∧ (∃ t, exec (.chainResetEnd i) s = .next t ∧ t = { s with slots := t.slots } ∧ others t
        ∧ t.slot i.val = { s.slot i.val with clears := (t.slot i.val).clears } ∧ t.chainSettles i.val = s.chainSettles i.val
        ∧ (∀ k, k ∈ (t.slot i.val).clears ↔ k ∈ (s.slot i.val).clears ∧ s.ticks < k + 640 + 2 ^ 17)
        ∧ (∀ w ∈ (s.slot i.val).wins, s.ticks ≤ w.tick + w.len + 1000 → w.len ≤ 2 ^ 16 →
            t.winSettles i.val w = s.winSettles i.val w)
        ∧ ∀ k, (s.slot i.val).clears = [k] → (s.chainSettles i.val = true ↔ k ≤ s.ticks ∧ s.ticks < k + 640))
    ∧ (let w := sget Watch.init s.cap.watch g.val
      (w.lastRec = none ∨ w.changed = 0 ∨ (∃ f, w.lastRec = some f ∧ s.ticks < f + 512) →
        exec (.dbitChangeCoalesced g) s = .next s)
      ∧ (∀ f, w.lastRec = some f → w.changed ≠ 0 → f + 512 ≤ s.ticks → s.streaming = true → s.stagedBytes + 32 ≤ 65536 →
        ∃ t, exec (.dbitChangeCoalesced g) s = .next t ∧ t = { s with cap := t.cap, host := t.host }
          ∧ sget Watch.init t.cap.watch g.val = { w with changed := 0, first := 0, lastRec := some s.ticks }
          ∧ (s.ticks, changeBytes g.val true w.changed w.first w.value w.valid w.stale) ∈ t.host.event.recs
          ∧ t.host.event.recs.length = s.host.event.recs.length + 1
          ∧ ∀ k, k ≠ g.val → sget Watch.init t.cap.watch k = sget Watch.init s.cap.watch k))
    ∧ (let a := aAcq n.val
      let from_ := s.ticks - s.fld (a 0x10) 15 0
      let spans := s.runSpans from_ s.ticks
      let raw := spans.flatMap (fun p => s.rawMags n.val p.1 p.2)
      let peak := min 0xFFFFFF (raw.foldl max 0)
      let ms := min 0xFFFFFF ((raw.map (fun x => x * x)).sum / max 1 raw.length)
      let high := if s.fld (a 0x14) 11 0 ≠ 0 ∧ s.fld (a 0x14) 11 0 ≤ peak then 1 else 0
      let loud := if s.fld (a 0x18) 23 0 ≠ 0 ∧ s.fld (a 0x18) 23 0 < ms then 2 else 0
      let low := if s.fld (a 0x1C) 23 0 ≠ 0 ∧ ms < s.fld (a 0x1C) 23 0 then 4 else 0
      (s.blockEnds n.val = false → exec (.detectorBlock n) s = .next s)
      ∧ (s.blockEnds n.val = true → ∃ t, exec (.detectorBlock n) s = .next t
        ∧ t.regN (a 0x20) = peak ∧ t.regN (a 0x24) = ms ∧ t.fld (a 0x2C) 2 0 = high + loud + low
        ∧ (∀ (j : Fin 32), let l := spans.flatMap (fun p => s.slotMags (32 * n.val + j.val) p.1 p.2)
            t.regN (aSlot (32 * n.val + j.val) 0x44) = min 0x3FFFF (l.foldl max 0)
            ∧ t.regN (aSlot (32 * n.val + j.val) 0x48)
              = min (2 ^ 32 - 1) ((l.map (fun x => x * x)).sum / max 1 l.length / 256))
        ∧ (high + loud + low = s.fld (a 0x2C) 2 0 → t = { s with regs := t.regs, inputs := t.inputs, trks := t.trks })
        ∧ (high + loud + low ≠ s.fld (a 0x2C) 2 0 → t.fld (a 4) 1 1 = 1
            ∧ t = { s with regs := t.regs, inputs := t.inputs, trks := t.trks, host := t.host }
            ∧ ((s.input n.val).lastRec = none → (s.input n.val).owed = none → s.stagedBytes + 16 ≤ 65536 →
                (t.input n.val).lastRec = some s.ticks
                ∧ (s.ticks, [6, 1] ++ leBytes 1 n.val ++ leBytes 1 (high + loud + low) ++ leBytes 4 0
                    ++ leBytes 8 (s.frame - 33)) ∈ t.host.event.recs)
            ∧ (∀ f, (s.input n.val).lastRec = some f → s.ticks < f + 1024 → (s.input n.val).owed = none →
                t.host = s.host ∧ (t.input n.val).owed = some (s.frame - 33)))))
    ∧ (∀ f fin, (s.input n.val).lastRec = some f → (s.input n.val).owed = some fin →
      (s.ticks < f + 1024 → exec (.detectorRecordCoalesced n) s = .next s)
      ∧ (f + 1024 ≤ s.ticks → s.streaming = true → s.stagedBytes + 16 ≤ 65536 →
        ∃ t, exec (.detectorRecordCoalesced n) s = .next t ∧ t = { s with inputs := t.inputs, host := t.host }
          ∧ t.input n.val = { s.input n.val with lastRec := some s.ticks, owed := none }
          ∧ (s.ticks, [6, 1] ++ leBytes 1 n.val ++ leBytes 1 (s.fld (aAcq n.val 0x2C) 2 0 + 128) ++ leBytes 4 0
              ++ leBytes 8 fin) ∈ t.host.event.recs))

/-- R328 to R332, R334, R337. Accumulators are read as R334 lets a reader other than a MAC operation see them. With I = 1
PACK takes IMM for xt: that is the model's choice (log entry 13). -/
def Obligations.RdspArithmetic : Prop :=
  ∀ (s : State) (c : Fin 16) (o : RdspR) (m : RdspA), s.issuesPlain c →
    let r := s.rd c
    let u := r.onward s.frame
    let a := r.getX o.xs
    let b := if o.i then o.imm.signExtend 32 else r.getX o.xt
    let n := b.toNat % 32
    let acc := (r.oldA m.ad).toInt
    (∀ row ∈ ([
        (.rdspLi c o, some o.xd.val, o.imm.signExtend 32, none),
        (.rdspLui c o, some o.xd.val, o.imm ++ ((u.getX o.xd).setWidth 16), none),
        (.rdspAdd c o, some o.xd.val, a + b, some (decide (a + b = 0), (a + b).msb)),
        (.rdspSub c o, some o.xd.val, a - b, some (decide (a - b = 0), (a - b).msb)),
        (.rdspAnd c o, some o.xd.val, a &&& b, some (decide (a &&& b = 0), (a &&& b).msb)),
        (.rdspOr c o, some o.xd.val, a ||| b, some (decide (a ||| b = 0), (a ||| b).msb)),
        (.rdspXor c o, some o.xd.val, a ^^^ b, some (decide (a ^^^ b = 0), (a ^^^ b).msb)),
        (.rdspShl c o, some o.xd.val, a <<< n, some (decide (a <<< n = 0), (a <<< n).msb)),
        (.rdspShr c o, some o.xd.val, a.sshiftRight n, some (decide (a.sshiftRight n = 0), (a.sshiftRight n).msb)),
        (.shrl c o, some o.xd.val, a >>> n, some (decide (a >>> n = 0), (a >>> n).msb)),
        (.pack c o, some o.xd.val, b.setWidth 16 ++ a.setWidth 16,
          some (decide (b.setWidth 16 = 0 ∧ a.setWidth 16 = 0), b.getLsbD 15)),
        (.mv c o, some o.xd.val, a, some (decide (a = 0), a.msb)),
        (.rdspCmp c o, none, 0, some (decide (a = b), decide (a.toInt < b.toInt)))] :
        List (Instr × Option Nat × Word × Option (Bool × Bool))),
      match row with
      | (i, dest, v, zn) => ∃ t, exec i s = .next t ∧ s.coreOnly t c
          ∧ t.rd c = { u with x := (t.rd c).x, sr := (t.rd c).sr }
          ∧ (∀ k, (t.rd c).getX k = if dest = some k then v else u.getX k)
          ∧ ∀ k, k < 16 → (t.rd c).sr.getLsbD k = match k, zn with
            | 0, some f => f.1
            | 1, some f => f.2
            | _, _ => u.sr.getLsbD k)
    ∧ (∀ row ∈ ([
        (.clr c m, 0), (.mvxa c m, (r.getX m.x).toInt), (.adda c m, acc + (r.oldA m.src).toInt),
        (.suba c m, acc - (r.oldA m.src).toInt), (.sra c m, acc / 2 ^ m.sh.val), (.absa c m, acc.natAbs)] :
        List (Instr × Int)),
      match row with
      | (i, v) => ∃ t, exec i s = .next t ∧ s.coreOnly t c
          ∧ t.rd c = { u with acc := (t.rd c).acc, sr := (t.rd c).sr }
          ∧ (∀ k, (t.rd c).getA k = if k = m.ad.val then BitVec.ofInt 40 v else r.getA k)
          ∧ (t.rd c).sr.getLsbD 0 = decide (BitVec.ofInt 40 v = 0) ∧ (t.rd c).sr.getLsbD 1 = (BitVec.ofInt 40 v).msb
          ∧ (∀ k, k < 16 → k ≠ 0 → k ≠ 1 → k ≠ 3 → (t.rd c).sr.getLsbD k = u.sr.getLsbD k)
          ∧ ((BitVec.ofInt 40 v).toInt = v → (t.rd c).sr.getLsbD 3 = u.sr.getLsbD 3)
          ∧ ((BitVec.ofInt 40 v).toInt ≠ v → r.delayed = [] → (t.rd c).sr.getLsbD 3 = true))
    ∧ (let v := rneInt acc m.sh
      let w := if m.w.val = 1 ∨ m.w.val = 2 then 16 else 32
      let lim := satInt w v
      let out := BitVec.ofInt 32 (if r.sr.getLsbD 8 then lim else v)
      ∃ t, exec (.stax c m) s = .next t ∧ s.coreOnly t c
        ∧ t.rd c = { u with delayed := (t.rd c).delayed, sr := (t.rd c).sr }
        ∧ (t.rd c).delayed = r.fresh ++ [match m.w.val with
            | 1 => .x m.x 0x0000FFFF out
            | 2 => .x m.x 0xFFFF0000 (out <<< 16)
            | _ => .x m.x (-1) out]
        ∧ (∀ k, k < 16 → k ≠ 4 → (t.rd c).sr.getLsbD k = u.sr.getLsbD k)
        ∧ (lim = v → (t.rd c).sr = u.sr) ∧ (lim ≠ v → r.delayed = [] → (t.rd c).sr.getLsbD 4 = true))
    ∧ ∃ t, exec (.bita c m) s = .next t ∧ s.coreOnly t c ∧ t.rd c = { u with x := (t.rd c).x, sr := (t.rd c).sr }
        ∧ (∀ k j, j < 32 → ((t.rd c).getX k).getLsbD j =
            if k = m.x.val ∧ j = m.b.val then decide (0 ≤ acc) else (u.getX k).getLsbD j)
        ∧ (∀ k, 2 ≤ k → k < 16 → (t.rd c).sr.getLsbD k = u.sr.getLsbD k)
        ∧ (r.delayed = [] → (t.rd c).sr.getLsbD 0 = decide ((t.rd c).getX m.x = 0)
            ∧ (t.rd c).sr.getLsbD 1 = ((t.rd c).getX m.x).msb)

/-- R127, R318, R319, R322 to R328, R330, R334, R375. How a SIO to port 0x0F clears AV and LV, and that a LIO of it reads the flags
of one slot before, is the model's choice (log entry 41), and so is that a RES record carries no tags (log entry 69). -/
def Obligations.RdspMemoryAndPorts : Prop :=
  ∀ (s : State) (c : Fin 16), s.issuesPlain c →
    let r := s.rd c
    let u := r.onward s.frame
    let late (i : Instr) (ws : List Late1) : Prop := ∃ t, exec i s = .next t ∧ s.coreOnly t c
      ∧ t.rd c = { u with delayed := r.fresh ++ ws }
    (∀ (o : RdspM),
      let p := sget 0 r.p o.pn
      let a := if o.am.val = 0 then p else if o.am.val = 1 then p + (r.getX o.ix).setWidth 14 else o.addr
      let post := if o.am.val = 0 then [Late1.p o.pn (postModify p (sget 0 r.m o.pn))] else []
      let word := aRd c ((if o.y then 0xC0000 else 0x80000) + 4 * a.toNat)
      late (.ld c o .clean) (.x o.x (-1) (BitVec.ofNat 32 (s.memWord word)) :: post)
      ∧ (∀ more, late (.ld c o (.corrected more)) (.x o.x (-1) (BitVec.ofNat 32 (s.memWord word)) :: post))
      ∧ exec (.ld c o .uncorrectable) s = .next (s.eccFault (some c.val) 5 a.toNat)
      ∧ ∃ t, exec (.st c o) s = .next t ∧ t = { s with mem := t.mem, rdsps := t.rdsps }
        ∧ t.rd c = { u with delayed := r.fresh ++ post } ∧ (∀ k, k ≠ c.val → t.rd k = s.rd k)
        ∧ t.bytesAt word 4 = leBytes 4 (r.getX o.x).toNat ∧ ∀ b, b < word ∨ word + 4 ≤ b → t.byteAt b = s.byteAt b)
    ∧ (∀ (p : BitVec 14) (w : Word), bitsOf w.toNat 31 30 = 0 ∨ 3 ≤ bitsOf w.toNat 31 30 ∨ bitsOf w.toNat 29 16 = 0 →
        postModify p w = p + (w.setWidth 14))
    ∧ (∀ (p : BitVec 14) (w : Word), sbitsOf w.toNat 15 0 = 0 → postModify p w = p)
    ∧ (∀ (p : BitVec 14) (w : Word), bitsOf w.toNat 31 30 = 1 → bitsOf w.toNat 29 16 ≠ 0 → sbitsOf w.toNat 15 0 ≠ 0 →
        ∀ k, 2 ^ k < 2 * bitsOf w.toNat 29 16 → bitsOf w.toNat 29 16 ≤ 2 ^ k →
        (((postModify p w).toNat : Int) % 16384 =
          (p.toNat / 2 ^ k * 2 ^ k + ((p.toNat % 2 ^ k : Nat) + sbitsOf w.toNat 15 0) % bitsOf w.toNat 29 16) % 16384))
    ∧ (∀ k v, revBits k v < 2 ^ k ∧ ∀ i, i < k → (revBits k v).testBit i = v.testBit (k - 1 - i))
    ∧ (∀ (p : BitVec 14) (w : Word), bitsOf w.toNat 31 30 = 2 → bitsOf w.toNat 29 16 ≠ 0 → sbitsOf w.toNat 15 0 ≠ 0 →
        ∀ k, 2 ^ k ≤ bitsOf w.toNat 29 16 → bitsOf w.toNat 29 16 < 2 * 2 ^ k →
        (postModify p w).toNat = p.toNat / 2 ^ k * 2 ^ k
          + revBits k (((revBits k (p.toNat % 2 ^ k) : Int) + sbitsOf w.toNat 15 0) % (2 ^ k : Int)).toNat)
    ∧ (∀ o : RdspP, late (.lp c o) [.p o.n (o.imm.setWidth 14)]
        ∧ late (.lmi c o) [.m o.n 0x0000FFFF (o.imm.setWidth 32)]
        ∧ late (.lml c o) [.m o.n 0xFFFF0000 (o.imm ++ (0 : BitVec 16))]
        ∧ (r.delayed = [] → late (.mvpx c o) [.x (o.imm.toNat % 16) (-1) ((sget 0 r.p o.n).setWidth 32)]))
    ∧ (∀ h rest, r.queue = h :: rest → ∃ t, exec (.rdspIn c) s = .next t ∧ s.coreOnly t c
        ∧ t.rd c = { u with queue := rest, sr := (t.rd c).sr, delayed := (t.rd c).delayed }
        ∧ (t.rd c).sr.getLsbD 2 = false ∧ (∀ k, k < 16 → k ≠ 2 → (t.rd c).sr.getLsbD k = u.sr.getLsbD k)
        ∧ ∃ v, (t.rd c).delayed = r.fresh ++ [.x 12 (-1) (BitVec.ofInt 32 h.i), .x 13 (-1) (BitVec.ofInt 32 h.q),
              .x 14 (-1) v, .x 15 (-1) (BitVec.ofNat 32 h.t)]
          ∧ v.extractLsb' 0 2 = h.code ∧ v.extractLsb' 8 6 = BitVec.ofNat 6 h.slot ∧ v.extractLsb' 16 7 = h.tags
          ∧ v &&& 0xFF80C0FC = 0)
    ∧ (r.queue = [] → ∃ t, exec (.rdspIn c) s = .next t ∧ s.coreOnly t c ∧ t.rd c = { u with sr := (t.rd c).sr }
        ∧ (t.rd c).sr.getLsbD 2 = true ∧ ∀ k, k < 16 → k ≠ 2 → (t.rd c).sr.getLsbD k = u.sr.getLsbD k)
    ∧ (∀ o : RdspD,
      let j := o.dbit.val % 64
      let d0 := 2048 + 64 * c.val + j
      let d1 := 2048 + 64 * c.val + (j + 1) % 64
      let x := r.getX o.x
      let clear := decide (o.w.val = 2 ∨ o.w.val = 3)
      (∃ t, exec (.dst c o) s = .next t ∧ t = { s with dwrites := t.dwrites, rdsps := t.rdsps } ∧ t.rd c = u
        ∧ (o.w.val = 0 ∨ o.w.val = 2 → t.dwrites = s.dwrites ++ [⟨s.frame + 10, d0, x.getLsbD 0, clear⟩])
        ∧ (o.w.val = 1 ∨ o.w.val = 3 → t.dwrites = s.dwrites ++
            [⟨s.frame + 10, d0, x.getLsbD 0, clear⟩, ⟨s.frame + 10, d1, x.getLsbD 1, clear⟩]))
      ∧ (let d := s.dbitSeen o.dbit
        let check := decide (2 ≤ s.frame) && s.passesRound (s.frame - 2) d
        late (.rdd c o) [.x o.x (-1) (BitVec.ofNat 32
          (d.value.toNat + 2 * d.valid.toNat + 4 * d.stale.toNat + 8 * check.toNat))]))
    ∧ (s.streaming = true → s.stagedBytes + 16 ≤ 65536 →
        let slot := 64 * c.val + bitsOf (r.getX 14).toNat 13 8
        let x := (r.getX 15).toNat
        ∀ tag, (x ≤ s.frame % 2 ^ 32 → tag = s.frame / 2 ^ 32 * 2 ^ 32 + x) →
        (s.frame % 2 ^ 32 < x → 2 ^ 32 ≤ s.frame ∧ tag = (s.frame / 2 ^ 32 - 1) * 2 ^ 32 + x) →
        (s.slot slot).lastRec = none → ∃ t, exec (.res c) s = .next t
          ∧ t = { s with host := t.host, slots := t.slots, rdsps := t.rdsps } ∧ t.rd c = u
          ∧ t.host.result.recs = s.host.result.recs ++ [(s.ticks, fullBytes (tag % 2 ^ 48) slot ((r.getX 14).setWidth 2)
              true false false (s.slot slot).rateLoss (r.getX 12).toInt (r.getX 13).toInt 0)])
    ∧ (∀ o : RdspIo,
      (o.port = 0 → ∃ t, exec (.lio c o) s = .next t ∧ s.coreOnly t c
        ∧ t.rd c = { u with frameHi := BitVec.ofNat 32 (s.frame / 2 ^ 32),
                            delayed := r.fresh ++ [.x o.x (-1) (BitVec.ofNat 32 s.frame)] })
      ∧ (o.port = 1 → late (.lio c o) [.x o.x (-1) r.frameHi])
      ∧ (o.port = 2 → ∃ t, exec (.lio c o) s = .next t ∧ s.coreOnly t c
        ∧ t.rd c = { u with roundHi := BitVec.ofNat 32 (s.roundAt s.frame / 2 ^ 32),
                            delayed := r.fresh ++ [.x o.x (-1) (BitVec.ofNat 32 (s.roundAt s.frame))] })
      ∧ (o.port = 3 → late (.lio c o) [.x o.x (-1) r.roundHi])
      ∧ (o.port = 4 → late (.lio c o) [.x o.x (-1) (BitVec.ofNat 32 r.queue.length)])
      ∧ (o.port = 8 → ∃ t, exec (.lio c o) s = .next t ∧ s.coreOnly t c
        ∧ t.rd c = { u with mboxReq := false, delayed := r.fresh ++ [.x o.x (-1) (s.reg (aRd c 0x20))] })
      ∧ (o.port = 0xF → late (.lio c o) [.x o.x (-1) (((r.srOld &&& 0x001F) ||| (r.sr &&& 0x0700)).setWidth 32)])
      ∧ (∀ a v, a < 2 → v < 3 → o.port.toNat = 0x20 + 3 * a + v →
          late (.lio c o) [.x o.x (-1) (s.reg (aAcq (2 * c + a) (0x20 + 4 * v)))])
      ∧ (∀ j v, j < 64 → v < 3 → o.port.toNat = 0x40 + 0x40 * v + j →
          late (.lio c o) [.x o.x (-1) (s.reg (aSlot (64 * c + j) (0x44 + 4 * v)))])
      ∧ (o.port.toNat ∈ [5, 6, 7, 9, 0xA, 0xB, 0xC, 0xD, 0xE] ∨ (0x10 ≤ o.port.toNat ∧ o.port.toNat < 0x20)
          ∨ (0x26 ≤ o.port.toNat ∧ o.port.toNat < 0x40) → late (.lio c o) [.x o.x (-1) 0])
      ∧ (o.port = 9 → ∃ t, exec (.sio c o) s = .next t ∧ t = { s with regs := t.regs, rdsps := t.rdsps } ∧ t.rd c = u
        ∧ t.reg (aRd c 0x24) = r.getX o.x ∧ ∀ b, b ≠ aRd c 0x24 → t.reg b = s.reg b)
      ∧ (o.port = 0xF → ∃ t, exec (.sio c o) s = .next t ∧ s.coreOnly t c
        ∧ t.rd c = { u with sr := (t.rd c).sr, delayed := r.fresh ++ [.sr ((r.getX o.x).setWidth 16)] }
        ∧ (r.delayed = [] → (t.rd c).sr = (r.sr &&& 0xFFE7) ||| (r.sr &&& (r.getX o.x).setWidth 16 &&& 0x18)))
      ∧ (o.port ≠ 9 → o.port ≠ 0xF → late (.sio c o) []))
    ∧ ∀ o : RdspPar,
      let x := r.getX o.xs
      let y := r.getX (8 + o.xt)
      let xl := (x.setWidth 16).toInt
      let xh := (x.extractLsb' 16 16).toInt
      let yl := (y.setWidth 16).toInt
      let yh := (y.extractLsb' 16 16).toInt
      let a := (r.getA o.ad).toInt
      let v : Int := match o.mop.val with
        | 0 => xl * yl + xh * yh
        | 1 => a + xl * yl + xh * yh
        | 2 => a - xl * yl - xh * yh
        | 3 => a + xl * yl - xh * yh
        | 4 => a + xl * yh + xh * yl
        | 5 => a + xl * yl
        | _ => a + xh * yh
      let px := sget 0 r.p o.px
      let py := sget 0 r.p (4 + o.py)
      let lx := if o.lx then [Late1.x o.dx (-1) (BitVec.ofNat 32 (s.memWord (aRd c (0x80000 + 4 * px.toNat)))),
        .p o.px (postModify px (sget 0 r.m o.px))] else []
      let ly := if o.ly then [Late1.x (8 + o.dy) (-1) (BitVec.ofNat 32 (s.memWord (aRd c (0xC0000 + 4 * py.toNat)))),
        .p (4 + o.py) (postModify py (sget 0 r.m (4 + o.py)))] else []
      (o.lx = true → exec (.rdspParallel c o .uncorrectable .clean) s = .next (s.eccFault (some c.val) 5 px.toNat))
      ∧ (o.ly = true → exec (.rdspParallel c o .clean .uncorrectable) s = .next (s.eccFault (some c.val) 5 py.toNat))
      ∧ (o.mop = 7 → late (.rdspParallel c o .clean .clean) (lx ++ ly))
      ∧ (o.mop ≠ 7 → ∃ t, exec (.rdspParallel c o .clean .clean) s = .next t ∧ s.coreOnly t c
        ∧ t.rd c = { u with delayed := r.fresh ++ lx ++ ly, acc := (t.rd c).acc, sr := (t.rd c).sr }
        ∧ (∀ k, (t.rd c).getA k = if k = o.ad.val then BitVec.ofInt 40 v else r.getA k)
        ∧ (t.rd c).sr.getLsbD 0 = decide (BitVec.ofInt 40 v = 0) ∧ (t.rd c).sr.getLsbD 1 = (BitVec.ofInt 40 v).msb
        ∧ (∀ k, k < 16 → k ≠ 0 → k ≠ 1 → k ≠ 3 → (t.rd c).sr.getLsbD k = u.sr.getLsbD k)
        ∧ ((BitVec.ofInt 40 v).toInt ≠ v → r.delayed = [] → (t.rd c).sr.getLsbD 3 = true))

/-- R317, R329, R333 to R339. -/
def Obligations.RdspControl : Prop :=
  ∀ (s : State) (c : Fin 16),
    let r := s.rd c
    let u := r.onward s.frame
    let gives (i : Instr) (x : Rdsp) : Prop := ∃ t, exec i s = .next t ∧ s.coreOnly t c ∧ t.rd c = x
    let halts (i : Instr) (err : Nat) : Prop := ∃ t, exec i s = .next t ∧ t = { s with rdsps := t.rdsps, regs := t.regs }
      ∧ (t.rd c).state = 4 ∧ (t.rd c).pc = r.pc ∧ (∀ k, k ≠ c.val → t.rd k = s.rd k)
      ∧ t.fld (aRd c 4) 19 16 = err ∧ t.fld (aRd c 4) 7 7 = 1 ∧ t.regN (aRd c 0xC) = r.pc.toNat
      ∧ (t.rd c).queue = r.queue
    (s.rdReady c = true →
      (∀ p rest, r.branch = none → r.reps = p :: rest → p.last = r.pc.toNat →
        (1 < p.left → gives (.rdspNop c) { u with pc := BitVec.ofNat 14 p.first, reps := { p with left := p.left - 1 } :: rest })
        ∧ (p.left ≤ 1 → gives (.rdspNop c) { u with reps := rest }))
      ∧ (∀ n v, r.reps = [] → r.branch = some (n + 2, v) → gives (.rdspNop c) { u with branch := some (n + 1, v) })
      ∧ (∀ v, r.reps = [] → r.branch = some (1, v) → gives (.rdspNop c) { u with branch := none, pc := v }))
    ∧ (s.issuesPlain c →
      gives (.rdspNop c) u
      ∧ gives (.rdspHalt c) { u with state := 0 }
      ∧ gives (.waiti c) { u with state := 3 }
      ∧ (r.delayed = [] → gives (.ei c) { u with sr := r.sr ||| 0x200 } ∧ gives (.di c) { u with sr := r.sr &&& 0xFDFF })
      ∧ (∀ o : RdspB,
        let goal := if o.r then (r.getX o.xs).setWidth 14 else o.target
        let z := r.srOld.getLsbD 0
        let n := r.srOld.getLsbD 1
        let e := r.srOld.getLsbD 2
        let holds : Bool := match o.cond.val with
          | 0 => true | 1 => z | 2 => !z | 3 => n | 4 => !n | 5 => z || n | 6 => !z && !n | 7 => e | 8 => !e
          | _ => false
        gives (.br c o) { u with branch := some (2, if holds then goal else r.pc + 3) }
        ∧ (r.calls.length < 8 → gives (.rdspCall c o) { u with branch := some (2, goal), calls := (r.pc + 3) :: r.calls })
        ∧ (8 ≤ r.calls.length → halts (.rdspCall c o) 4))
      ∧ (∀ v rest, r.calls = v :: rest → gives (.rdspRet c) { u with branch := some (2, v), calls := rest })
      ∧ (r.calls = [] → halts (.rdspRet c) 4)
      ∧ (r.delayed = [] → gives (.reti c) { u with branch := some (2, r.kept), state := 1, sr := r.sr &&& 0xFBFF })
      ∧ ∀ o : RdspRep,
        let n := if o.r then (r.getX o.xs).toNat % 65536 else o.cnt.toNat
        (n ≠ 0 → o.len ≠ 0 → gives (.rep c o) { u with
          reps := [⟨(r.pc.toNat + 1) % 16384, (r.pc.toNat + o.len.toNat) % 16384, n⟩] })
        ∧ (n = 0 ∨ o.len = 0 → gives (.rep c o) { u with pc := r.pc + 1 + BitVec.ofNat 14 o.len.toNat }))
    ∧ (s.rdReady c = true → ∀ (o : RdspB) (o2 : RdspRep) (w : Nat × BitVec 14), r.branch = some w →
        halts (.br c o) 2 ∧ halts (.rdspCall c o) 2 ∧ halts (.rdspRet c) 2 ∧ halts (.reti c) 2 ∧ halts (.rep c o2) 2)
    ∧ (s.rdReady c = true → r.branch = none → ∀ (o : RdspB) (p : Repeat), p ∈ r.reps → p.first ≤ r.pc.toNat →
        r.pc.toNat ≤ p.last → p.last < r.pc.toNat + 3 →
        halts (.br c o) 3 ∧ halts (.rdspCall c o) 3 ∧ halts (.rdspRet c) 3 ∧ halts (.reti c) 3)
    ∧ (s.rdReady c = true → r.branch = none → 3 ≤ r.reps.length → ∀ o : RdspRep, o.r = false → o.cnt ≠ 0 → o.len ≠ 0 →
        halts (.rep c o) 3)
    ∧ (s.mode = .run → s.contained c = false → r.state = 1 ∨ r.state = 3 → r.nextIssue ≤ s.frame →
      r.sr.getLsbD 9 = true → r.sr.getLsbD 10 = false → r.branch = none → r.reps = [] →
      (r.queue ≠ [] ∨ r.roundReq = true ∨ r.mboxReq = true) →
      s.inLibrary c = false ∨ r.holds = 0 →
      ∃ t, exec (.rdspInterrupt c) s = .next t ∧ t = { s with rdsps := t.rdsps, regs := t.regs }
        ∧ (t.rd c).state = 2 ∧ (t.rd c).kept = r.pc ∧ (t.rd c).nextIssue = s.frame + 3
        ∧ (t.rd c).sr.getLsbD 10 = true ∧ (t.rd c).queue = r.queue
        ∧ (t.rd c).pc = (if r.queue ≠ [] then 4 else if r.roundReq then 8 else 12)
        ∧ (r.queue = [] → t.regs = s.regs ∧ ((t.rd c).roundReq = false)))
    ∧ (s.irqDue c = false → exec (.rdspInterrupt c) s = .next s)

/-- R38, R338, R349, R350, R357 to R359, R370, R432, R433 to R435, R438, R440, R441, R506. The model's choice, no
rule of the spec: what round 0 compares (log entry 33), the completion of a shot (log entry 34), and the quantum asked
for and the ABORT count of a refused first quantum (log entry 64). -/
def Obligations.RoundsCellsAndTrackers : Prop :=
  ∀ (s : State),
    (s.isBoundary s.frame = false ∨ s.perc.last = some s.frame → ∀ ecc, exec (.roundBoundary ecc) s = .next s)
    ∧ (s.isBoundary s.frame = true → s.perc.last ≠ some s.frame →
      let r := s.roundAt s.frame
      let syn := s.regN 0x60000000
      (s.mode = .run → bitOf syn 0 = true → ∃ t, exec (.roundBoundary .uncorrectable) s = .next t ∧ t.mode = .safe)
      ∧ ∀ ecc, ecc ≠ .uncorrectable ∨ s.mode ≠ .run ∨ bitOf syn 0 = false →
        ∃ t, exec (.roundBoundary ecc) s = .next t ∧ t.perc.last = some s.frame ∧ t.perc.syn.toNat = syn ∧ t.frame = s.frame
        ∧ (∀ c : Fin 16, (t.rd c).roundReq = true) ∧ t.dbits = s.dbits ∧ t.seqs = s.seqs
        ∧ (∀ h ∈ s.perc.held, h.late = false → r < h.due → h ∈ t.perc.held)
        ∧ (s.mode ≠ .run ∨ bitOf syn 0 = false →
            t.dwrites = s.dwrites ∧ t.perc.hist = s.perc.hist ∧ t.perc.prev = s.perc.prev)
        ∧ (s.mode = .run → bitOf syn 0 = true → ∀ k : Fin 1024,
          let w := s.memWord (bankAt (bitsOf syn 3 3) (4 * k.val))
          let d := bitsOf w 12 0
          let b := s.dbit d
          let value := b.value != bitOf w 13
          let present := b.valid = true ∧ b.stale = false ∧ b.inRound = true ∧ s.clearedNow d = false
            ∧ ((0 < r ∧ b.tag = BitVec.ofNat 32 (r - 1))
              ∨ (b.tag = BitVec.ofNat 32 r ∧ ∃ x ∈ s.dlog, x.idx = d ∧ x.tick = s.ticks))
          bitOf w 15 = true →
            (¬ present → ⟨s.frame + 4, 6144 + k.val, false, false⟩ ∈ t.dwrites
              ∧ sget none t.perc.prev k.val = sget none s.perc.prev k.val)
            ∧ (present → sget none t.perc.prev k.val = some value
              ∧ (∀ p, sget none s.perc.prev k.val = some p →
                  ⟨s.frame + 4, 6144 + k.val, value != p, false⟩ ∈ t.dwrites)
              ∧ (sget none s.perc.prev k.val = none →
                  ⟨s.frame + 4, 6144 + k.val, value && !bitOf w 14, false⟩ ∈ t.dwrites))))
    ∧ (∀ i : Fin 1024, s.mode ≠ .reset →
      let d := 5120 + i.val
      let cfg := s.cellCfg i.val
      let ins := (List.range (bitsOf cfg 12 8)).map (fun k => s.cellInput i.val k)
      let vs := ins.map (fun x => (s.dbitSeen x.1).value != x.2)
      let ones := vs.count true
      let raw : Bool := match cfg % 4 with
        | 0 => decide (ones % 2 = 1)
        | 1 => decide (ones = vs.length)
        | 2 => decide (0 < ones)
        | _ => decide (vs.length < 2 * ones)
      (bitOf cfg 31 = false ∨ (bitOf cfg 3 = false ∧ ∃ x ∈ ins, s.inputValid i.val x.1 = false) →
        ∃ t, exec (.logicCellEval i) s = .next t ∧ t = { s with dbits := t.dbits, dlog := t.dlog, regs := t.regs }
          ∧ t.dbit d = { s.dbit d with valid := false } ∧ ∀ j, j ≠ d → t.dbit j = s.dbit j)
      ∧ (bitOf cfg 31 = true → ins ≠ [] → (∀ x ∈ ins, s.inputValid i.val x.1 = true) →
        ∃ t, exec (.logicCellEval i) s = .next t ∧ t = { s with dbits := t.dbits, dlog := t.dlog }
          ∧ (t.dbit d).value = (raw != bitOf cfg 2) ∧ (t.dbit d).valid = true ∧ (t.dbit d).stale = (s.dbit d).stale
          ∧ (t.dbit d).inRound = ins.any (fun x => (s.dbitSeen x.1).inRound)
          ∧ ∀ j, j ≠ d → t.dbit j = s.dbit j))
    ∧ (∀ (c : Fin 16) (k : Fin 4) (i : Fin 64),
      let ts := s.shotTargets c i
      let b := s.batch c k i
      let asks : Prop := k.val % 2 = 0 ∧ (s.trk c).shots = [] ∧ s.itemRuns c k i = true ∧ s.thermLevel < 2
        ∧ s.asksNow c = true ∧ b.shots < 2 * s.itemM c k i ∧ s.itemOk c k i = true ∧ s.shotWindow c k ts = some none
      let granted : Prop := s.quantumFree ts 16 none = true ∧ s.shotFree ts (s.shotLen c i) = true
      (k.val % 2 = 1 ∨ s.mode ≠ .run → ∀ ecc, exec (.trackerQuantum c k i ecc) s = .next s)
      ∧ (k.val % 2 = 0 → (s.trk c).shots = [] → s.itemRuns c k i = false ∨ 2 ≤ s.thermLevel ∨ s.asksNow c = false →
          ∀ ecc, exec (.trackerQuantum c k i ecc) s = .next s)
      ∧ (asks → granted → ∃ t x p, exec (.trackerQuantum c k i .clean) s = .next t
          ∧ t = { s with trks := t.trks, plays := t.plays, clusters := t.clusters }
          ∧ (t.trk c).shots = [x] ∧ x.trk = k.val ∧ x.item = i.val ∧ x.at_ = s.frame + 16 ∧ x.pos = 0
          ∧ x.stretch = s.nextStretch c i 1 5 ∧ x.plus = decide (b.shots % 2 = 0)
          ∧ (t.trk c).spans = (s.trk c).spans ++ ts.map (fun j => (j, s.frame, s.frame + 16))
          ∧ t.playOn (ts.getD 0 0) = some p ∧ p.entry = s.entry (s.shotSegs c i).1 ∧ p.t = s.ticks
          ∧ p.upTo = some (s.ticks + 16) ∧ p.phase = 0
          ∧ (∀ j, j ≠ ts.getD 0 0 → t.playOn j = s.playOn j) ∧ ∀ j, j ≠ c.val → t.trk j = s.trk j)
      ∧ (asks → ¬ granted → ∃ t, exec (.trackerQuantum c k i .clean) s = .next t
          ∧ t = { s with trks := t.trks, regs := t.regs } ∧ (t.trk c).shots = [] ∧ t.fld (aCl c 0x2004) 1 1 = 1
          ∧ t.regN (aCl c 0x200C) = min (2 ^ 32 - 1) (s.regN (aCl c 0x200C) + 1)
          ∧ (t.trk c).asked = some s.frame)
      ∧ (∀ x, k.val % 2 = 0 → s.mode = .run → (s.trk c).shots = [x] → x.trk = k.val → x.item = i.val →
        let len := if x.pos = 0 then s.stretchLen c i x.stretch else x.len
        let q := min 16 (len - x.pos)
        let sl := bitsOf (s.itemWord c i 0) 25 16
        (s.frame < x.at_ → ∀ ecc, exec (.trackerQuantum c k i ecc) s = .next s)
        ∧ (x.at_ ≤ s.frame → x.stretch = 5 → ∀ ecc, ∃ t, exec (.trackerQuantum c k i ecc) s = .next t
          ∧ t = { s with trks := t.trks, regs := t.regs } ∧ (t.trk c).shots = []
          ∧ t.regN (aCl c 0x2008) = min (2 ^ 32 - 1) (s.regN (aCl c 0x2008) + 1)
          ∧ (x.code = none → t.batch c k i = { b with shots := b.shots + 1 })
          ∧ (∀ one, x.code = some one → x.plus = true →
              t.batch c k i = { b with shots := b.shots + 1, counted := b.counted + 1, plus := b.plus + b2n one })
          ∧ (∀ one, x.code = some one → x.plus = false →
              t.batch c k i = { b with shots := b.shots + 1, counted := b.counted + 1, minus := b.minus + b2n one }))
        ∧ (x.at_ = s.frame → x.stretch ≠ 5 → s.quantumFree ts q x.win = false →
          ∃ t, exec (.trackerQuantum c k i .clean) s = .next t
          ∧ t = { s with trks := t.trks, slots := t.slots, regs := t.regs } ∧ (t.trk c).shots = []
          ∧ t.fld (aCl c 0x2004) 1 1 = 1 ∧ (∀ j, j ≠ sl → t.slot j = s.slot j)
          ∧ t.regN (aCl c 0x200C) = min (2 ^ 32 - 1) (s.regN (aCl c 0x200C) + 1))
        ∧ (x.at_ = s.frame → x.stretch ≠ 5 → s.quantumFree ts q x.win = true → x.limit = none →
          ∃ t y, exec (.trackerQuantum c k i .clean) s = .next t
            ∧ t = { s with trks := t.trks, plays := t.plays, clusters := t.clusters, slots := t.slots, regs := t.regs }
            ∧ (t.trk c).shots = [y] ∧ y.at_ = s.frame + q ∧ y.item = x.item ∧ y.plus = x.plus
            ∧ (t.trk c).spans = (s.trk c).spans ++ ts.map (fun j => (j, s.frame, s.frame + q))
            ∧ (x.pos + q < len → y.stretch = x.stretch ∧ y.pos = x.pos + q)
            ∧ (len ≤ x.pos + q → y.stretch = s.nextStretch c i (x.stretch + 1) 5 ∧ y.pos = 0)
            ∧ (x.stretch = 3 → x.pos = 0 → y.win = some s.ticks ∧ (t.slot sl).wins = (s.slot sl).wins
                ++ [s.newWindow sl (bitsOf (s.itemWord c i 2) 29 16) false false (some (k.val, i.val, x.plus))])))
      ∧ (s.itemRuns c k i = false → exec (.trackerUpdate c k i) s = .next s)
      ∧ (k.val = 3 → s.itemRuns c k i = true → b.blocks < s.itemM c k i ∨ 2 ≤ s.thermLevel →
          exec (.trackerUpdate c k i) s = .next s)
      ∧ (k.val = 3 → s.itemRuns c k i = true → 0 < s.itemM c k i → s.itemM c k i ≤ b.blocks → s.thermLevel < 2 →
        let goal := s.itemM c k i * s.itemWord c i 1
        let band := bitsOf (s.itemWord c i 2) 15 0
        let step := bitsOf (s.itemWord c i 2) 31 16
        let level := s.fld (aPump c 0x18) 15 0
        ∃ t, exec (.trackerUpdate c k i) s = .next t ∧ t = { s with trks := t.trks } ∧ t.batch c k i = .init
          ∧ (b.sum * 65536 < goal * (65536 - band) →
              (t.trk c).ready = (s.trk c).ready.filter (fun u => !(u.trk == 3 && u.item == i.val))
                ++ [⟨3, i.val, s.frame, [(aPump c 4, (min 65535 (level + step) : Nat))]⟩])
          ∧ (goal * (65536 - band) ≤ b.sum * 65536 → goal * (65536 + band) < b.sum * 65536 →
              (t.trk c).ready = (s.trk c).ready.filter (fun u => !(u.trk == 3 && u.item == i.val))
                ++ [⟨3, i.val, s.frame, [(aPump c 4, (level - step : Nat))]⟩])
          ∧ (goal * (65536 - band) ≤ b.sum * 65536 → b.sum * 65536 ≤ goal * (65536 + band) →
              (t.trk c).ready = (s.trk c).ready))
      ∧ (k.val = 0 → s.itemRuns c k i = true → 0 < s.itemM c k i → 2 * s.itemM c k i ≤ b.counted →
        s.thermLevel < 2 →
        let w := s.itemWord c i 0
        let a := aDrv (bitsOf w 9 0 / 4) (0x1000 + 0x20 * (32 * (bitsOf w 9 0 % 4) + bitsOf w 14 10))
        ∃ t, exec (.trackerUpdate c k i) s = .next t ∧ t = { s with trks := t.trks } ∧ t.batch c k i = .init
          ∧ (t.trk c).ready = (s.trk c).ready.filter (fun u => !(u.trk == 0 && u.item == i.val))
              ++ [⟨0, i.val, s.frame, [(a, (s.reg64 (a + 0x10) : Int)
                + freqStep (bitsOf (s.itemWord c i 3) 23 16) (s.itemM c k i) (bitsOf (s.itemWord c i 2) 15 0)
                    ((b.minus : Int) - b.plus))]⟩]))
end

