-- ==== Sys2Proof/Laws/Fields.lean ====
section
/-!
SUPPORT. Fields of a word: what reading one back from a sum of placed fields gives.
-/
namespace Sys2Proof.Machine

theorem b2n_lt (b : Bool) : b2n b < 2 := by cases b <;> decide

theorem place_lt {lo k v : Nat} (h : v < 2 ^ (k - lo)) (hk : lo ≤ k) : place lo v + 1 ≤ 2 ^ k := by
  have e : 2 ^ k = 2 ^ (k - lo) * 2 ^ lo := by rw [← Nat.pow_add]; congr 1; omega
  rw [place, e]
  exact Nat.mul_lt_mul_of_pos_right h (Nat.two_pow_pos lo)

/-- A field placed above the one read does not show in it. -/
theorem bitsOf_place_above {hi lo k : Nat} (v r : Nat) (h : hi < k) :
    bitsOf (place k v + r) hi lo = bitsOf r hi lo := by
  unfold bitsOf place
  by_cases hl : lo ≤ hi
  · have e1 : 2 ^ k = 2 ^ (k - (hi + 1)) * 2 ^ (hi + 1 - lo) * 2 ^ lo := by
      rw [← Nat.pow_add, ← Nat.pow_add]; congr 1; omega
    rw [e1, ← Nat.mul_assoc, ← Nat.mul_assoc, Nat.add_comm, Nat.add_mul_div_right _ _ (Nat.two_pow_pos lo),
      Nat.add_mul_mod_self_right]
  · have e : hi + 1 - lo = 0 := by omega
    simp [e, Nat.mod_one]

/-- The field read is the one placed there, whatever stands below it. -/
theorem bitsOf_place {hi lo : Nat} (v r : Nat) (hv : v < 2 ^ (hi + 1 - lo)) (hr : r < 2 ^ lo) :
    bitsOf (place lo v + r) hi lo = v := by
  unfold bitsOf place
  rw [Nat.add_comm, Nat.add_mul_div_right _ _ (Nat.two_pow_pos lo), Nat.div_eq_of_lt hr, Nat.zero_add,
    Nat.mod_eq_of_lt hv]

/-- The lowest field. -/
theorem bitsOf_low {hi : Nat} (r : Nat) (hr : r < 2 ^ (hi + 1)) : bitsOf r hi 0 = r := by
  simp [bitsOf, Nat.mod_eq_of_lt hr]

/-- A sum of fields below `2 ^ k`. -/
theorem place_add_lt {lo k v r : Nat} (hk : lo ≤ k) (hv : v < 2 ^ (k - lo)) (hr : r < 2 ^ lo) :
    place lo v + r < 2 ^ k := by
  have e : 2 ^ k = 2 ^ (k - lo) * 2 ^ lo := by rw [← Nat.pow_add]; congr 1; omega
  have h : (v + 1) * 2 ^ lo ≤ 2 ^ (k - lo) * 2 ^ lo := Nat.mul_le_mul_right _ hv
  rw [e, place]
  calc v * 2 ^ lo + r < v * 2 ^ lo + 2 ^ lo := by omega
    _ = (v + 1) * 2 ^ lo := by rw [Nat.add_mul, Nat.one_mul]
    _ ≤ _ := h

theorem bitOf_eq_bitsOf (n b : Nat) : bitOf n b = decide (bitsOf n b b = 1) := by
  have e : b + 1 - b = 1 := by omega
  simp [bitOf, bitsOf, Nat.testBit_eq_decide_div_mod_eq, e]

theorem decide_b2n (b : Bool) : decide (b2n b = 1) = b := by cases b <;> decide

theorem ofNat_val {n : Nat} [NeZero n] (x : Fin n) : Fin.ofNat n x.val = x := by
  apply Fin.ext; simp [Fin.ofNat, Nat.mod_eq_of_lt x.isLt]

end Sys2Proof.Machine
end

