-- ==== Sys2Proof/Laws/Filters.lean ====
section
/-!
SUPPORT. The fixed filters in use keep the bounds of R216 and R291, whatever the free choices are.
-/
namespace Sys2Proof.Machine

theorem interpolateDesign_ok : interpolateOk interpolateDesign = true := by decide +kernel

/-- The interpolation filter keeps the bounds of R216. -/
theorem interpolateTaps_ok : interpolateOk interpolateTaps = true := by
  simp only [interpolateTaps]
  split
  · assumption
  · exact interpolateDesign_ok

theorem droopDesign_ok : halfBandOk 1 droopDesign = true := by decide +kernel

theorem halfBandDesign_ok : halfBandOk 2 halfBandDesign = true := by decide +kernel

/-- The stages after the first are judged alike. -/
theorem halfBandOk_later {k : Nat} (hk : k ≠ 1) (l : List Int) : halfBandOk k l = halfBandOk 2 l := by
  simp [halfBandOk, hk]

/-- Every half-band stage keeps the bounds of R291. -/
theorem halfBandTaps_ok (k : Nat) : halfBandOk k (halfBandTaps k) = true := by
  simp only [halfBandTaps]
  split
  · assumption
  · by_cases hk : k = 1
    · rw [hk]
      exact droopDesign_ok
    · rw [halfBandOk_later hk, if_neg hk]
      exact halfBandDesign_ok

end Sys2Proof.Machine
end

