-- ==== Sys2Proof/Laws/Sparse.lean ====
section
/-!
SUPPORT. Things held by number: a read after a write, and that every write keeps the canonical form.
-/
namespace Sys2Proof.Machine

variable {α : Type}

@[simp] theorem sget_nil (d : α) (k : Nat) : sget d [] k = d := rfl

theorem sget_serase_same (d : α) (l : List (Nat × α)) (k : Nat) : sget d (serase l k) k = d := by
  induction l with
  | nil => rfl
  | cons p t ih =>
    obtain ⟨j, v⟩ := p
    by_cases h : j = k <;> simp [serase, sget, h, ih]

theorem sget_serase_other (d : α) (l : List (Nat × α)) {j k : Nat} (hjk : j ≠ k) :
    sget d (serase l k) j = sget d l j := by
  induction l with
  | nil => rfl
  | cons p t ih =>
    obtain ⟨i, v⟩ := p
    by_cases h : i = k
    · subst h; simp [serase, sget, ih, Ne.symm hjk]
    · simp only [serase, h, if_false, sget, ih]

theorem sget_sins_same (d : α) (l : List (Nat × α)) (k : Nat) (v : α)
    (h : sget d l k = d ∧ ∀ p ∈ l, p.1 ≠ k) : sget d (sins l k v) k = v := by
  induction l with
  | nil => simp [sins, sget]
  | cons p t ih =>
    obtain ⟨j, w⟩ := p
    have hj : j ≠ k := h.2 (j, w) (by simp)
    have ht : sget d t k = d := by simpa [sget, hj] using h.1
    by_cases h1 : k < j
    · simp [sins, sget, h1]
    · simp only [sins, h1, sget, hj, if_false]
      exact ih ⟨ht, fun p hp => h.2 p (by simp [hp])⟩

theorem sget_sins_other (d : α) (l : List (Nat × α)) {j k : Nat} (v : α) (hjk : j ≠ k) :
    sget d (sins l k v) j = sget d l j := by
  induction l with
  | nil => simp [sins, sget, Ne.symm hjk]
  | cons p t ih =>
    obtain ⟨i, w⟩ := p
    by_cases h1 : k < i
    · simp [sins, sget, h1, Ne.symm hjk]
    · simp only [sins, h1, if_false, sget, ih]

theorem serase_mem {l : List (Nat × α)} {k : Nat} {p : Nat × α} (h : p ∈ serase l k) : p ∈ l ∧ p.1 ≠ k := by
  induction l with
  | nil => simp [serase] at h
  | cons q t ih =>
    obtain ⟨j, v⟩ := q
    by_cases hj : j = k
    · simp only [serase, hj, if_true] at h
      exact ⟨List.mem_cons_of_mem _ (ih h).1, (ih h).2⟩
    · simp only [serase, hj, if_false, List.mem_cons] at h
      rcases h with rfl | h
      · exact ⟨by simp, hj⟩
      · exact ⟨List.mem_cons_of_mem _ (ih h).1, (ih h).2⟩

variable [DecidableEq α]

/-- A read after a write of the same number gives the value written. -/
@[simp] theorem sget_sset_same (d : α) (l : List (Nat × α)) (k : Nat) (v : α) :
    sget d (sset d l k v) k = v := by
  unfold sset
  split
  · next h => rw [sget_serase_same, h]
  · exact sget_sins_same _ _ _ _ ⟨sget_serase_same .., fun p hp => (serase_mem hp).2⟩

/-- A write leaves every other number alone, whatever an unlisted one reads as. -/
theorem sget_sset_default (d e : α) (l : List (Nat × α)) {j k : Nat} (v : α) (hjk : j ≠ k) :
    sget e (sset d l k v) j = sget e l j := by
  unfold sset
  split
  · exact sget_serase_other _ _ hjk
  · rw [sget_sins_other _ _ _ hjk, sget_serase_other _ _ hjk]

/-- A write leaves every other number alone. -/
theorem sget_sset_other (d : α) (l : List (Nat × α)) {j k : Nat} (v : α) (hjk : j ≠ k) :
    sget d (sset d l k v) j = sget d l j := sget_sset_default _ _ _ _ hjk

theorem sget_sset (d : α) (l : List (Nat × α)) (j k : Nat) (v : α) :
    sget d (sset d l k v) j = if j = k then v else sget d l j := by
  split
  · next h => rw [h, sget_sset_same]
  · next h => exact sget_sset_other _ _ _ h

@[simp] theorem sget_supd_same (d : α) (l : List (Nat × α)) (k : Nat) (f : α → α) :
    sget d (supd d l k f) k = f (sget d l k) := sget_sset_same ..

theorem sget_supd_other (d : α) (l : List (Nat × α)) {j k : Nat} (f : α → α) (hjk : j ≠ k) :
    sget d (supd d l k f) j = sget d l j := sget_sset_other _ _ _ hjk

theorem sget_supd (d : α) (l : List (Nat × α)) (j k : Nat) (f : α → α) :
    sget d (supd d l k f) j = if j = k then f (sget d l k) else sget d l j := sget_sset ..

/-! ## The canonical form -/

theorem swfFrom_mono {d : α} {lo lo' : Nat} {l : List (Nat × α)} (hle : lo' ≤ lo)
    (h : swfFrom d lo l = true) : swfFrom d lo' l = true := by
  cases l with
  | nil => rfl
  | cons p t =>
    obtain ⟨k, v⟩ := p
    simp only [swfFrom, Bool.and_eq_true, decide_eq_true_eq] at h ⊢
    exact ⟨⟨by omega, h.1.2⟩, h.2⟩

theorem swfFrom_serase {d : α} {lo : Nat} {l : List (Nat × α)} (k : Nat)
    (h : swfFrom d lo l = true) : swfFrom d lo (serase l k) = true := by
  induction l generalizing lo with
  | nil => rfl
  | cons p t ih =>
    obtain ⟨j, v⟩ := p
    simp only [swfFrom, Bool.and_eq_true, decide_eq_true_eq] at h
    by_cases hj : j = k
    · simp only [serase, hj, if_true]
      exact swfFrom_mono (by omega) (ih h.2)
    · simp only [serase, hj, if_false, swfFrom, Bool.and_eq_true, decide_eq_true_eq]
      exact ⟨h.1, ih h.2⟩

theorem swfFrom_sins {d : α} {lo : Nat} {l : List (Nat × α)} {k : Nat} {v : α} (hv : v ≠ d)
    (hlo : lo ≤ k) (hk : ∀ p ∈ l, p.1 ≠ k) (h : swfFrom d lo l = true) :
    swfFrom d lo (sins l k v) = true := by
  induction l generalizing lo with
  | nil => simp [sins, swfFrom, hv, hlo]
  | cons p t ih =>
    obtain ⟨j, w⟩ := p
    have hj : j ≠ k := hk (j, w) (by simp)
    simp only [swfFrom, Bool.and_eq_true, decide_eq_true_eq] at h
    by_cases h1 : k < j
    · simp only [sins, h1, if_true, swfFrom, Bool.and_eq_true, decide_eq_true_eq]
      exact ⟨⟨hlo, by simp [hv]⟩, ⟨by omega, h.1.2⟩, h.2⟩
    · simp only [sins, h1, if_false, swfFrom, Bool.and_eq_true, decide_eq_true_eq]
      exact ⟨h.1, ih (by omega) (fun p hp => hk p (by simp [hp])) h.2⟩

/-- A write keeps the canonical form. -/
theorem swf_sset {d : α} {l : List (Nat × α)} (k : Nat) (v : α) (h : swf d l = true) :
    swf d (sset d l k v) = true := by
  unfold sset
  split
  · exact swfFrom_serase k h
  · next hv => exact swfFrom_sins hv (Nat.zero_le _) (fun p hp => (serase_mem hp).2) (swfFrom_serase k h)

theorem swfFrom_filter {d : α} {lo : Nat} {l : List (Nat × α)} (f : Nat × α → Bool)
    (h : swfFrom d lo l = true) : swfFrom d lo (l.filter f) = true := by
  induction l generalizing lo with
  | nil => rfl
  | cons p t ih =>
    obtain ⟨j, v⟩ := p
    simp only [swfFrom, Bool.and_eq_true, decide_eq_true_eq] at h
    by_cases hf : f (j, v) = true
    · simp only [List.filter_cons_of_pos hf, swfFrom, Bool.and_eq_true, decide_eq_true_eq]
      exact ⟨h.1, ih h.2⟩
    · rw [List.filter_cons_of_neg (by simpa using hf)]
      exact swfFrom_mono (by omega) (ih h.2)

/-- Leaving entries out keeps the canonical form. -/
theorem swf_filter {d : α} {l : List (Nat × α)} (f : Nat × α → Bool) (h : swf d l = true) :
    swf d (l.filter f) = true := swfFrom_filter f h

end Sys2Proof.Machine
end

