-- ==== Sys2Proof/Laws/Memory.lean ====
section
/-!
SUPPORT. Byte memory: what a byte reads as after a store, and that every operation on memory keeps its canonical
form.
-/
namespace Sys2Proof.Machine

theorem State.byteAt_setByte_eq (s : State) (a k : Nat) (b : Byte) :
    (s.setByte a b).byteAt k = if k = a then b else s.byteAt k := sget_sset ..

/-- Bytes stored upward from `a` read back, and every other byte is as it was. -/
theorem State.byteAt_setBytes_eq (s : State) (a : Nat) (l : List Byte) (k : Nat) :
    (s.setBytes a l).byteAt k = if a ≤ k ∧ k < a + l.length then l.getD (k - a) 0 else s.byteAt k := by
  induction l generalizing s a with
  | nil => simp only [State.setBytes, List.length_nil]; rw [if_neg (by omega)]
  | cons b t ih =>
    simp only [State.setBytes, List.length_cons]
    rw [ih, State.byteAt_setByte_eq]
    by_cases h1 : a + 1 ≤ k ∧ k < a + 1 + t.length
    · have e : k - a = k - (a + 1) + 1 := by omega
      rw [if_pos h1, if_pos (by omega), e, List.getD_cons_succ]
    · rw [if_neg h1]
      by_cases h2 : k = a
      · subst h2; rw [if_pos rfl, if_pos (by omega)]; simp
      · rw [if_neg h2, if_neg (by omega)]

theorem State.sound_setByte {s : State} (a : Nat) (b : Byte) (h : s.sound) : (s.setByte a b).sound :=
  ⟨swf_sset a b h.1, h.2⟩

theorem State.sound_setBytes {s : State} (a : Nat) (l : List Byte) (h : s.sound) : (s.setBytes a l).sound := by
  induction l generalizing s a with
  | nil => exact h
  | cons b t ih => exact ih (a + 1) (State.sound_setByte a b h)

theorem State.sound_setMemWord {s : State} (a v : Nat) (h : s.sound) : (s.setMemWord a v).sound :=
  State.sound_setBytes a _ h

/-- A state with the memory of a sound one, and its boundary, is sound. -/
theorem State.sound_of_mem {s t : State} (h : s.sound) (e : t.mem = s.mem) (eb : t.base = s.base) : t.sound := by
  unfold State.sound; rw [e, eb]; exact h

/-- A state whose memory is part of a sound one's is sound. -/
theorem State.sound_of_filter {s t : State} (f : Host.Cell → Bool) (h : s.sound) (e : t.mem = s.mem.filter f)
    (eb : t.base = s.base ∨ t.base = none) : t.sound := by
  refine ⟨by rw [e]; exact swf_filter f h.1, fun b hb => ?_⟩
  rcases eb with eb | eb
  · exact h.2 b (eb ▸ hb)
  · rw [eb] at hb; cases hb

/-- The start of a frame taken back is sound where the state is (R42). -/
theorem State.sound_undo {s : State} (redo : State → State) (h : s.sound) (hr : ∀ t : State, t.sound → (redo t).sound) :
    (s.undo redo).sound := by
  unfold State.undo
  split
  · exact h
  · next b e => exact hr _ ⟨h.2 b e, fun c hc => by cases hc⟩

/-- The memory that RESET keeps and clears (R42, R56). -/
theorem State.sound_cleared {s : State} (h : s.sound) : s.cleared.sound :=
  State.sound_of_filter _ h rfl (by first | exact .inl rfl | exact .inr rfl)

/-- The recorder area after a RECORDER_CLEAR (R532). -/
theorem State.sound_clearCirc {s : State} (h : s.sound) : s.clearCirc.sound :=
  State.sound_of_filter _ h rfl (.inl rfl)

end Sys2Proof.Machine
end

