-- ==== Sys2Proof/Laws/State.lean ====
section
/-!
SUPPORT. What each update of the state leaves alone, field by field, and what a unit reads as after an update of
its kind.
-/
namespace Sys2Proof.Machine

@[simp] theorem State.setReg_frame (s : State) (a : Nat) (v : Word) :
    (s.setReg a v).pending = s.pending ∧ (s.setReg a v).base = s.base ∧ (s.setReg a v).frame = s.frame ∧
    (s.setReg a v).ticks = s.ticks ∧ (s.setReg a v).jumps = s.jumps ∧ (s.setReg a v).boots = s.boots ∧
    (s.setReg a v).mode = s.mode ∧ (s.setReg a v).power = s.power ∧ (s.setReg a v).boot = s.boot ∧
    (s.setReg a v).modes = s.modes ∧ (s.setReg a v).shadow = s.shadow ∧ (s.setReg a v).dirty = s.dirty ∧
    (s.setReg a v).latches = s.latches ∧ (s.setReg a v).staging = s.staging ∧ (s.setReg a v).mem = s.mem ∧
    (s.setReg a v).host = s.host ∧ (s.setReg a v).commits = s.commits ∧ (s.setReg a v).seqs = s.seqs ∧
    (s.setReg a v).tqueues = s.tqueues ∧ (s.setReg a v).plays = s.plays ∧ (s.setReg a v).clusters = s.clusters ∧
    (s.setReg a v).slots = s.slots ∧ (s.setReg a v).inputs = s.inputs ∧ (s.setReg a v).dbits = s.dbits ∧
    (s.setReg a v).dlog = s.dlog ∧ (s.setReg a v).dwrites = s.dwrites ∧ (s.setReg a v).perc = s.perc ∧
    (s.setReg a v).rdsps = s.rdsps ∧ (s.setReg a v).mes = s.mes ∧ (s.setReg a v).trks = s.trks ∧
    (s.setReg a v).baselines = s.baselines ∧ (s.setReg a v).cap = s.cap ∧ (s.setReg a v).gols = s.gols ∧
    (s.setReg a v).sync = s.sync ∧ (s.setReg a v).ntu = s.ntu ∧ (s.setReg a v).biases = s.biases ∧
    (s.setReg a v).stages = s.stages ∧ (s.setReg a v).markers = s.markers ∧ (s.setReg a v).voices = s.voices ∧
    (s.setReg a v).chains = s.chains ∧ (s.setReg a v).dac = s.dac ∧ (s.setReg a v).was = s.was ∧
    (s.setReg a v).past = s.past ∧ (s.setReg a v).acqPast = s.acqPast ∧ (s.setReg a v).therm = s.therm ∧
    (s.setReg a v).bar = s.bar ∧ (s.setReg a v).spi = s.spi ∧ (s.setReg a v).phase = s.phase ∧
    (s.setReg a v).freeCtr = s.freeCtr := by
  and_intros <;> rfl

@[simp] theorem State.setRegN_frame (s : State) (a v : Nat) :
    (s.setRegN a v).pending = s.pending ∧ (s.setRegN a v).base = s.base ∧ (s.setRegN a v).frame = s.frame ∧
    (s.setRegN a v).ticks = s.ticks ∧ (s.setRegN a v).jumps = s.jumps ∧ (s.setRegN a v).boots = s.boots ∧
    (s.setRegN a v).mode = s.mode ∧ (s.setRegN a v).power = s.power ∧ (s.setRegN a v).boot = s.boot ∧
    (s.setRegN a v).modes = s.modes ∧ (s.setRegN a v).shadow = s.shadow ∧ (s.setRegN a v).dirty = s.dirty ∧
    (s.setRegN a v).latches = s.latches ∧ (s.setRegN a v).staging = s.staging ∧ (s.setRegN a v).mem = s.mem ∧
    (s.setRegN a v).host = s.host ∧ (s.setRegN a v).commits = s.commits ∧ (s.setRegN a v).seqs = s.seqs ∧
    (s.setRegN a v).tqueues = s.tqueues ∧ (s.setRegN a v).plays = s.plays ∧ (s.setRegN a v).clusters = s.clusters ∧
    (s.setRegN a v).slots = s.slots ∧ (s.setRegN a v).inputs = s.inputs ∧ (s.setRegN a v).dbits = s.dbits ∧
    (s.setRegN a v).dlog = s.dlog ∧ (s.setRegN a v).dwrites = s.dwrites ∧ (s.setRegN a v).perc = s.perc ∧
    (s.setRegN a v).rdsps = s.rdsps ∧ (s.setRegN a v).mes = s.mes ∧ (s.setRegN a v).trks = s.trks ∧
    (s.setRegN a v).baselines = s.baselines ∧ (s.setRegN a v).cap = s.cap ∧ (s.setRegN a v).gols = s.gols ∧
    (s.setRegN a v).sync = s.sync ∧ (s.setRegN a v).ntu = s.ntu ∧ (s.setRegN a v).biases = s.biases ∧
    (s.setRegN a v).stages = s.stages ∧ (s.setRegN a v).markers = s.markers ∧ (s.setRegN a v).voices = s.voices ∧
    (s.setRegN a v).chains = s.chains ∧ (s.setRegN a v).dac = s.dac ∧ (s.setRegN a v).was = s.was ∧
    (s.setRegN a v).past = s.past ∧ (s.setRegN a v).acqPast = s.acqPast ∧ (s.setRegN a v).therm = s.therm ∧
    (s.setRegN a v).bar = s.bar ∧ (s.setRegN a v).spi = s.spi ∧ (s.setRegN a v).phase = s.phase ∧
    (s.setRegN a v).freeCtr = s.freeCtr := by
  and_intros <;> rfl

@[simp] theorem State.setFld_frame (s : State) (a hi lo v : Nat) :
    (s.setFld a hi lo v).pending = s.pending ∧ (s.setFld a hi lo v).base = s.base ∧
    (s.setFld a hi lo v).frame = s.frame ∧ (s.setFld a hi lo v).ticks = s.ticks ∧
    (s.setFld a hi lo v).jumps = s.jumps ∧ (s.setFld a hi lo v).boots = s.boots ∧
    (s.setFld a hi lo v).mode = s.mode ∧ (s.setFld a hi lo v).power = s.power ∧ (s.setFld a hi lo v).boot = s.boot ∧
    (s.setFld a hi lo v).modes = s.modes ∧ (s.setFld a hi lo v).shadow = s.shadow ∧
    (s.setFld a hi lo v).dirty = s.dirty ∧ (s.setFld a hi lo v).latches = s.latches ∧
    (s.setFld a hi lo v).staging = s.staging ∧ (s.setFld a hi lo v).mem = s.mem ∧
    (s.setFld a hi lo v).host = s.host ∧ (s.setFld a hi lo v).commits = s.commits ∧
    (s.setFld a hi lo v).seqs = s.seqs ∧ (s.setFld a hi lo v).tqueues = s.tqueues ∧
    (s.setFld a hi lo v).plays = s.plays ∧ (s.setFld a hi lo v).clusters = s.clusters ∧
    (s.setFld a hi lo v).slots = s.slots ∧ (s.setFld a hi lo v).inputs = s.inputs ∧
    (s.setFld a hi lo v).dbits = s.dbits ∧ (s.setFld a hi lo v).dlog = s.dlog ∧
    (s.setFld a hi lo v).dwrites = s.dwrites ∧ (s.setFld a hi lo v).perc = s.perc ∧
    (s.setFld a hi lo v).rdsps = s.rdsps ∧ (s.setFld a hi lo v).mes = s.mes ∧ (s.setFld a hi lo v).trks = s.trks ∧
    (s.setFld a hi lo v).baselines = s.baselines ∧ (s.setFld a hi lo v).cap = s.cap ∧
    (s.setFld a hi lo v).gols = s.gols ∧ (s.setFld a hi lo v).sync = s.sync ∧ (s.setFld a hi lo v).ntu = s.ntu ∧
    (s.setFld a hi lo v).biases = s.biases ∧ (s.setFld a hi lo v).stages = s.stages ∧
    (s.setFld a hi lo v).markers = s.markers ∧ (s.setFld a hi lo v).voices = s.voices ∧
    (s.setFld a hi lo v).chains = s.chains ∧ (s.setFld a hi lo v).dac = s.dac ∧ (s.setFld a hi lo v).was = s.was ∧
    (s.setFld a hi lo v).past = s.past ∧ (s.setFld a hi lo v).acqPast = s.acqPast ∧
    (s.setFld a hi lo v).therm = s.therm ∧ (s.setFld a hi lo v).bar = s.bar ∧ (s.setFld a hi lo v).spi = s.spi ∧
    (s.setFld a hi lo v).phase = s.phase ∧ (s.setFld a hi lo v).freeCtr = s.freeCtr := by
  and_intros <;> rfl

@[simp] theorem State.raise_frame (s : State) (a b : Nat) :
    (s.raise a b).pending = s.pending ∧ (s.raise a b).base = s.base ∧ (s.raise a b).frame = s.frame ∧
    (s.raise a b).ticks = s.ticks ∧ (s.raise a b).jumps = s.jumps ∧ (s.raise a b).boots = s.boots ∧
    (s.raise a b).mode = s.mode ∧ (s.raise a b).power = s.power ∧ (s.raise a b).boot = s.boot ∧
    (s.raise a b).modes = s.modes ∧ (s.raise a b).shadow = s.shadow ∧ (s.raise a b).dirty = s.dirty ∧
    (s.raise a b).latches = s.latches ∧ (s.raise a b).staging = s.staging ∧ (s.raise a b).mem = s.mem ∧
    (s.raise a b).host = s.host ∧ (s.raise a b).commits = s.commits ∧ (s.raise a b).seqs = s.seqs ∧
    (s.raise a b).tqueues = s.tqueues ∧ (s.raise a b).plays = s.plays ∧ (s.raise a b).clusters = s.clusters ∧
    (s.raise a b).slots = s.slots ∧ (s.raise a b).inputs = s.inputs ∧ (s.raise a b).dbits = s.dbits ∧
    (s.raise a b).dlog = s.dlog ∧ (s.raise a b).dwrites = s.dwrites ∧ (s.raise a b).perc = s.perc ∧
    (s.raise a b).rdsps = s.rdsps ∧ (s.raise a b).mes = s.mes ∧ (s.raise a b).trks = s.trks ∧
    (s.raise a b).baselines = s.baselines ∧ (s.raise a b).cap = s.cap ∧ (s.raise a b).gols = s.gols ∧
    (s.raise a b).sync = s.sync ∧ (s.raise a b).ntu = s.ntu ∧ (s.raise a b).biases = s.biases ∧
    (s.raise a b).stages = s.stages ∧ (s.raise a b).markers = s.markers ∧ (s.raise a b).voices = s.voices ∧
    (s.raise a b).chains = s.chains ∧ (s.raise a b).dac = s.dac ∧ (s.raise a b).was = s.was ∧
    (s.raise a b).past = s.past ∧ (s.raise a b).acqPast = s.acqPast ∧ (s.raise a b).therm = s.therm ∧
    (s.raise a b).bar = s.bar ∧ (s.raise a b).spi = s.spi ∧ (s.raise a b).phase = s.phase ∧
    (s.raise a b).freeCtr = s.freeCtr := by
  and_intros <;> rfl

@[simp] theorem State.count_frame (s : State) (a n : Nat) :
    (s.count a n).pending = s.pending ∧ (s.count a n).base = s.base ∧ (s.count a n).frame = s.frame ∧
    (s.count a n).ticks = s.ticks ∧ (s.count a n).jumps = s.jumps ∧ (s.count a n).boots = s.boots ∧
    (s.count a n).mode = s.mode ∧ (s.count a n).power = s.power ∧ (s.count a n).boot = s.boot ∧
    (s.count a n).modes = s.modes ∧ (s.count a n).shadow = s.shadow ∧ (s.count a n).dirty = s.dirty ∧
    (s.count a n).latches = s.latches ∧ (s.count a n).staging = s.staging ∧ (s.count a n).mem = s.mem ∧
    (s.count a n).host = s.host ∧ (s.count a n).commits = s.commits ∧ (s.count a n).seqs = s.seqs ∧
    (s.count a n).tqueues = s.tqueues ∧ (s.count a n).plays = s.plays ∧ (s.count a n).clusters = s.clusters ∧
    (s.count a n).slots = s.slots ∧ (s.count a n).inputs = s.inputs ∧ (s.count a n).dbits = s.dbits ∧
    (s.count a n).dlog = s.dlog ∧ (s.count a n).dwrites = s.dwrites ∧ (s.count a n).perc = s.perc ∧
    (s.count a n).rdsps = s.rdsps ∧ (s.count a n).mes = s.mes ∧ (s.count a n).trks = s.trks ∧
    (s.count a n).baselines = s.baselines ∧ (s.count a n).cap = s.cap ∧ (s.count a n).gols = s.gols ∧
    (s.count a n).sync = s.sync ∧ (s.count a n).ntu = s.ntu ∧ (s.count a n).biases = s.biases ∧
    (s.count a n).stages = s.stages ∧ (s.count a n).markers = s.markers ∧ (s.count a n).voices = s.voices ∧
    (s.count a n).chains = s.chains ∧ (s.count a n).dac = s.dac ∧ (s.count a n).was = s.was ∧
    (s.count a n).past = s.past ∧ (s.count a n).acqPast = s.acqPast ∧ (s.count a n).therm = s.therm ∧
    (s.count a n).bar = s.bar ∧ (s.count a n).spi = s.spi ∧ (s.count a n).phase = s.phase ∧
    (s.count a n).freeCtr = s.freeCtr := by
  and_intros <;> rfl

@[simp] theorem State.setReg64_frame (s : State) (a v : Nat) :
    (s.setReg64 a v).pending = s.pending ∧ (s.setReg64 a v).base = s.base ∧ (s.setReg64 a v).frame = s.frame ∧
    (s.setReg64 a v).ticks = s.ticks ∧ (s.setReg64 a v).jumps = s.jumps ∧ (s.setReg64 a v).boots = s.boots ∧
    (s.setReg64 a v).mode = s.mode ∧ (s.setReg64 a v).power = s.power ∧ (s.setReg64 a v).boot = s.boot ∧
    (s.setReg64 a v).modes = s.modes ∧ (s.setReg64 a v).shadow = s.shadow ∧ (s.setReg64 a v).dirty = s.dirty ∧
    (s.setReg64 a v).latches = s.latches ∧ (s.setReg64 a v).staging = s.staging ∧ (s.setReg64 a v).mem = s.mem ∧
    (s.setReg64 a v).host = s.host ∧ (s.setReg64 a v).commits = s.commits ∧ (s.setReg64 a v).seqs = s.seqs ∧
    (s.setReg64 a v).tqueues = s.tqueues ∧ (s.setReg64 a v).plays = s.plays ∧
    (s.setReg64 a v).clusters = s.clusters ∧ (s.setReg64 a v).slots = s.slots ∧ (s.setReg64 a v).inputs = s.inputs ∧
    (s.setReg64 a v).dbits = s.dbits ∧ (s.setReg64 a v).dlog = s.dlog ∧ (s.setReg64 a v).dwrites = s.dwrites ∧
    (s.setReg64 a v).perc = s.perc ∧ (s.setReg64 a v).rdsps = s.rdsps ∧ (s.setReg64 a v).mes = s.mes ∧
    (s.setReg64 a v).trks = s.trks ∧ (s.setReg64 a v).baselines = s.baselines ∧ (s.setReg64 a v).cap = s.cap ∧
    (s.setReg64 a v).gols = s.gols ∧ (s.setReg64 a v).sync = s.sync ∧ (s.setReg64 a v).ntu = s.ntu ∧
    (s.setReg64 a v).biases = s.biases ∧ (s.setReg64 a v).stages = s.stages ∧ (s.setReg64 a v).markers = s.markers ∧
    (s.setReg64 a v).voices = s.voices ∧ (s.setReg64 a v).chains = s.chains ∧ (s.setReg64 a v).dac = s.dac ∧
    (s.setReg64 a v).was = s.was ∧ (s.setReg64 a v).past = s.past ∧ (s.setReg64 a v).acqPast = s.acqPast ∧
    (s.setReg64 a v).therm = s.therm ∧ (s.setReg64 a v).bar = s.bar ∧ (s.setReg64 a v).spi = s.spi ∧
    (s.setReg64 a v).phase = s.phase ∧ (s.setReg64 a v).freeCtr = s.freeCtr := by
  and_intros <;> rfl

@[simp] theorem State.setBaseline_frame (s : State) (a : Nat) (v : Word) :
    (s.setBaseline a v).pending = s.pending ∧ (s.setBaseline a v).base = s.base ∧
    (s.setBaseline a v).frame = s.frame ∧ (s.setBaseline a v).ticks = s.ticks ∧ (s.setBaseline a v).jumps = s.jumps ∧
    (s.setBaseline a v).boots = s.boots ∧ (s.setBaseline a v).mode = s.mode ∧ (s.setBaseline a v).power = s.power ∧
    (s.setBaseline a v).boot = s.boot ∧ (s.setBaseline a v).modes = s.modes ∧ (s.setBaseline a v).regs = s.regs ∧
    (s.setBaseline a v).shadow = s.shadow ∧ (s.setBaseline a v).dirty = s.dirty ∧
    (s.setBaseline a v).latches = s.latches ∧ (s.setBaseline a v).staging = s.staging ∧
    (s.setBaseline a v).mem = s.mem ∧ (s.setBaseline a v).host = s.host ∧ (s.setBaseline a v).commits = s.commits ∧
    (s.setBaseline a v).seqs = s.seqs ∧ (s.setBaseline a v).tqueues = s.tqueues ∧
    (s.setBaseline a v).plays = s.plays ∧ (s.setBaseline a v).clusters = s.clusters ∧
    (s.setBaseline a v).slots = s.slots ∧ (s.setBaseline a v).inputs = s.inputs ∧
    (s.setBaseline a v).dbits = s.dbits ∧ (s.setBaseline a v).dlog = s.dlog ∧
    (s.setBaseline a v).dwrites = s.dwrites ∧ (s.setBaseline a v).perc = s.perc ∧
    (s.setBaseline a v).rdsps = s.rdsps ∧ (s.setBaseline a v).mes = s.mes ∧ (s.setBaseline a v).trks = s.trks ∧
    (s.setBaseline a v).cap = s.cap ∧ (s.setBaseline a v).gols = s.gols ∧ (s.setBaseline a v).sync = s.sync ∧
    (s.setBaseline a v).ntu = s.ntu ∧ (s.setBaseline a v).biases = s.biases ∧ (s.setBaseline a v).stages = s.stages ∧
    (s.setBaseline a v).markers = s.markers ∧ (s.setBaseline a v).voices = s.voices ∧
    (s.setBaseline a v).chains = s.chains ∧ (s.setBaseline a v).dac = s.dac ∧ (s.setBaseline a v).was = s.was ∧
    (s.setBaseline a v).past = s.past ∧ (s.setBaseline a v).acqPast = s.acqPast ∧
    (s.setBaseline a v).therm = s.therm ∧ (s.setBaseline a v).bar = s.bar ∧ (s.setBaseline a v).spi = s.spi ∧
    (s.setBaseline a v).phase = s.phase ∧ (s.setBaseline a v).freeCtr = s.freeCtr := by
  and_intros <;> rfl

@[simp] theorem State.setByte_frame (s : State) (a : Nat) (b : Byte) :
    (s.setByte a b).pending = s.pending ∧ (s.setByte a b).base = s.base ∧ (s.setByte a b).frame = s.frame ∧
    (s.setByte a b).ticks = s.ticks ∧ (s.setByte a b).jumps = s.jumps ∧ (s.setByte a b).boots = s.boots ∧
    (s.setByte a b).mode = s.mode ∧ (s.setByte a b).power = s.power ∧ (s.setByte a b).boot = s.boot ∧
    (s.setByte a b).modes = s.modes ∧ (s.setByte a b).regs = s.regs ∧ (s.setByte a b).shadow = s.shadow ∧
    (s.setByte a b).dirty = s.dirty ∧ (s.setByte a b).latches = s.latches ∧ (s.setByte a b).staging = s.staging ∧
    (s.setByte a b).host = s.host ∧ (s.setByte a b).commits = s.commits ∧ (s.setByte a b).seqs = s.seqs ∧
    (s.setByte a b).tqueues = s.tqueues ∧ (s.setByte a b).plays = s.plays ∧ (s.setByte a b).clusters = s.clusters ∧
    (s.setByte a b).slots = s.slots ∧ (s.setByte a b).inputs = s.inputs ∧ (s.setByte a b).dbits = s.dbits ∧
    (s.setByte a b).dlog = s.dlog ∧ (s.setByte a b).dwrites = s.dwrites ∧ (s.setByte a b).perc = s.perc ∧
    (s.setByte a b).rdsps = s.rdsps ∧ (s.setByte a b).mes = s.mes ∧ (s.setByte a b).trks = s.trks ∧
    (s.setByte a b).baselines = s.baselines ∧ (s.setByte a b).cap = s.cap ∧ (s.setByte a b).gols = s.gols ∧
    (s.setByte a b).sync = s.sync ∧ (s.setByte a b).ntu = s.ntu ∧ (s.setByte a b).biases = s.biases ∧
    (s.setByte a b).stages = s.stages ∧ (s.setByte a b).markers = s.markers ∧ (s.setByte a b).voices = s.voices ∧
    (s.setByte a b).chains = s.chains ∧ (s.setByte a b).dac = s.dac ∧ (s.setByte a b).was = s.was ∧
    (s.setByte a b).past = s.past ∧ (s.setByte a b).acqPast = s.acqPast ∧ (s.setByte a b).therm = s.therm ∧
    (s.setByte a b).bar = s.bar ∧ (s.setByte a b).spi = s.spi ∧ (s.setByte a b).phase = s.phase ∧
    (s.setByte a b).freeCtr = s.freeCtr := by
  and_intros <;> rfl

@[simp] theorem State.setSeq_frame (s : State) (q : Nat) (v : Seq) :
    (s.setSeq q v).pending = s.pending ∧ (s.setSeq q v).base = s.base ∧ (s.setSeq q v).frame = s.frame ∧
    (s.setSeq q v).ticks = s.ticks ∧ (s.setSeq q v).jumps = s.jumps ∧ (s.setSeq q v).boots = s.boots ∧
    (s.setSeq q v).mode = s.mode ∧ (s.setSeq q v).power = s.power ∧ (s.setSeq q v).boot = s.boot ∧
    (s.setSeq q v).modes = s.modes ∧ (s.setSeq q v).regs = s.regs ∧ (s.setSeq q v).shadow = s.shadow ∧
    (s.setSeq q v).dirty = s.dirty ∧ (s.setSeq q v).latches = s.latches ∧ (s.setSeq q v).staging = s.staging ∧
    (s.setSeq q v).mem = s.mem ∧ (s.setSeq q v).host = s.host ∧ (s.setSeq q v).commits = s.commits ∧
    (s.setSeq q v).tqueues = s.tqueues ∧ (s.setSeq q v).plays = s.plays ∧ (s.setSeq q v).clusters = s.clusters ∧
    (s.setSeq q v).slots = s.slots ∧ (s.setSeq q v).inputs = s.inputs ∧ (s.setSeq q v).dbits = s.dbits ∧
    (s.setSeq q v).dlog = s.dlog ∧ (s.setSeq q v).dwrites = s.dwrites ∧ (s.setSeq q v).perc = s.perc ∧
    (s.setSeq q v).rdsps = s.rdsps ∧ (s.setSeq q v).mes = s.mes ∧ (s.setSeq q v).trks = s.trks ∧
    (s.setSeq q v).baselines = s.baselines ∧ (s.setSeq q v).cap = s.cap ∧ (s.setSeq q v).gols = s.gols ∧
    (s.setSeq q v).sync = s.sync ∧ (s.setSeq q v).ntu = s.ntu ∧ (s.setSeq q v).biases = s.biases ∧
    (s.setSeq q v).stages = s.stages ∧ (s.setSeq q v).markers = s.markers ∧ (s.setSeq q v).voices = s.voices ∧
    (s.setSeq q v).chains = s.chains ∧ (s.setSeq q v).dac = s.dac ∧ (s.setSeq q v).was = s.was ∧
    (s.setSeq q v).past = s.past ∧ (s.setSeq q v).acqPast = s.acqPast ∧ (s.setSeq q v).therm = s.therm ∧
    (s.setSeq q v).bar = s.bar ∧ (s.setSeq q v).spi = s.spi ∧ (s.setSeq q v).phase = s.phase ∧
    (s.setSeq q v).freeCtr = s.freeCtr := by
  and_intros <;> rfl

@[simp] theorem State.modSeq_frame (s : State) (q : Nat) (f : Seq → Seq) :
    (s.modSeq q f).pending = s.pending ∧ (s.modSeq q f).base = s.base ∧ (s.modSeq q f).frame = s.frame ∧
    (s.modSeq q f).ticks = s.ticks ∧ (s.modSeq q f).jumps = s.jumps ∧ (s.modSeq q f).boots = s.boots ∧
    (s.modSeq q f).mode = s.mode ∧ (s.modSeq q f).power = s.power ∧ (s.modSeq q f).boot = s.boot ∧
    (s.modSeq q f).modes = s.modes ∧ (s.modSeq q f).regs = s.regs ∧ (s.modSeq q f).shadow = s.shadow ∧
    (s.modSeq q f).dirty = s.dirty ∧ (s.modSeq q f).latches = s.latches ∧ (s.modSeq q f).staging = s.staging ∧
    (s.modSeq q f).mem = s.mem ∧ (s.modSeq q f).host = s.host ∧ (s.modSeq q f).commits = s.commits ∧
    (s.modSeq q f).tqueues = s.tqueues ∧ (s.modSeq q f).plays = s.plays ∧ (s.modSeq q f).clusters = s.clusters ∧
    (s.modSeq q f).slots = s.slots ∧ (s.modSeq q f).inputs = s.inputs ∧ (s.modSeq q f).dbits = s.dbits ∧
    (s.modSeq q f).dlog = s.dlog ∧ (s.modSeq q f).dwrites = s.dwrites ∧ (s.modSeq q f).perc = s.perc ∧
    (s.modSeq q f).rdsps = s.rdsps ∧ (s.modSeq q f).mes = s.mes ∧ (s.modSeq q f).trks = s.trks ∧
    (s.modSeq q f).baselines = s.baselines ∧ (s.modSeq q f).cap = s.cap ∧ (s.modSeq q f).gols = s.gols ∧
    (s.modSeq q f).sync = s.sync ∧ (s.modSeq q f).ntu = s.ntu ∧ (s.modSeq q f).biases = s.biases ∧
    (s.modSeq q f).stages = s.stages ∧ (s.modSeq q f).markers = s.markers ∧ (s.modSeq q f).voices = s.voices ∧
    (s.modSeq q f).chains = s.chains ∧ (s.modSeq q f).dac = s.dac ∧ (s.modSeq q f).was = s.was ∧
    (s.modSeq q f).past = s.past ∧ (s.modSeq q f).acqPast = s.acqPast ∧ (s.modSeq q f).therm = s.therm ∧
    (s.modSeq q f).bar = s.bar ∧ (s.modSeq q f).spi = s.spi ∧ (s.modSeq q f).phase = s.phase ∧
    (s.modSeq q f).freeCtr = s.freeCtr := by
  and_intros <;> rfl

@[simp] theorem State.modCl_frame (s : State) (c : Nat) (f : Cluster → Cluster) :
    (s.modCl c f).pending = s.pending ∧ (s.modCl c f).base = s.base ∧ (s.modCl c f).frame = s.frame ∧
    (s.modCl c f).ticks = s.ticks ∧ (s.modCl c f).jumps = s.jumps ∧ (s.modCl c f).boots = s.boots ∧
    (s.modCl c f).mode = s.mode ∧ (s.modCl c f).power = s.power ∧ (s.modCl c f).boot = s.boot ∧
    (s.modCl c f).modes = s.modes ∧ (s.modCl c f).regs = s.regs ∧ (s.modCl c f).shadow = s.shadow ∧
    (s.modCl c f).dirty = s.dirty ∧ (s.modCl c f).latches = s.latches ∧ (s.modCl c f).staging = s.staging ∧
    (s.modCl c f).mem = s.mem ∧ (s.modCl c f).host = s.host ∧ (s.modCl c f).commits = s.commits ∧
    (s.modCl c f).seqs = s.seqs ∧ (s.modCl c f).tqueues = s.tqueues ∧ (s.modCl c f).plays = s.plays ∧
    (s.modCl c f).slots = s.slots ∧ (s.modCl c f).inputs = s.inputs ∧ (s.modCl c f).dbits = s.dbits ∧
    (s.modCl c f).dlog = s.dlog ∧ (s.modCl c f).dwrites = s.dwrites ∧ (s.modCl c f).perc = s.perc ∧
    (s.modCl c f).rdsps = s.rdsps ∧ (s.modCl c f).mes = s.mes ∧ (s.modCl c f).trks = s.trks ∧
    (s.modCl c f).baselines = s.baselines ∧ (s.modCl c f).cap = s.cap ∧ (s.modCl c f).gols = s.gols ∧
    (s.modCl c f).sync = s.sync ∧ (s.modCl c f).ntu = s.ntu ∧ (s.modCl c f).biases = s.biases ∧
    (s.modCl c f).stages = s.stages ∧ (s.modCl c f).markers = s.markers ∧ (s.modCl c f).voices = s.voices ∧
    (s.modCl c f).chains = s.chains ∧ (s.modCl c f).dac = s.dac ∧ (s.modCl c f).was = s.was ∧
    (s.modCl c f).past = s.past ∧ (s.modCl c f).acqPast = s.acqPast ∧ (s.modCl c f).therm = s.therm ∧
    (s.modCl c f).bar = s.bar ∧ (s.modCl c f).spi = s.spi ∧ (s.modCl c f).phase = s.phase ∧
    (s.modCl c f).freeCtr = s.freeCtr := by
  and_intros <;> rfl

@[simp] theorem State.modTq_frame (s : State) (k : Nat) (f : TQueue → TQueue) :
    (s.modTq k f).pending = s.pending ∧ (s.modTq k f).base = s.base ∧ (s.modTq k f).frame = s.frame ∧
    (s.modTq k f).ticks = s.ticks ∧ (s.modTq k f).jumps = s.jumps ∧ (s.modTq k f).boots = s.boots ∧
    (s.modTq k f).mode = s.mode ∧ (s.modTq k f).power = s.power ∧ (s.modTq k f).boot = s.boot ∧
    (s.modTq k f).modes = s.modes ∧ (s.modTq k f).regs = s.regs ∧ (s.modTq k f).shadow = s.shadow ∧
    (s.modTq k f).dirty = s.dirty ∧ (s.modTq k f).latches = s.latches ∧ (s.modTq k f).staging = s.staging ∧
    (s.modTq k f).mem = s.mem ∧ (s.modTq k f).host = s.host ∧ (s.modTq k f).commits = s.commits ∧
    (s.modTq k f).seqs = s.seqs ∧ (s.modTq k f).plays = s.plays ∧ (s.modTq k f).clusters = s.clusters ∧
    (s.modTq k f).slots = s.slots ∧ (s.modTq k f).inputs = s.inputs ∧ (s.modTq k f).dbits = s.dbits ∧
    (s.modTq k f).dlog = s.dlog ∧ (s.modTq k f).dwrites = s.dwrites ∧ (s.modTq k f).perc = s.perc ∧
    (s.modTq k f).rdsps = s.rdsps ∧ (s.modTq k f).mes = s.mes ∧ (s.modTq k f).trks = s.trks ∧
    (s.modTq k f).baselines = s.baselines ∧ (s.modTq k f).cap = s.cap ∧ (s.modTq k f).gols = s.gols ∧
    (s.modTq k f).sync = s.sync ∧ (s.modTq k f).ntu = s.ntu ∧ (s.modTq k f).biases = s.biases ∧
    (s.modTq k f).stages = s.stages ∧ (s.modTq k f).markers = s.markers ∧ (s.modTq k f).voices = s.voices ∧
    (s.modTq k f).chains = s.chains ∧ (s.modTq k f).dac = s.dac ∧ (s.modTq k f).was = s.was ∧
    (s.modTq k f).past = s.past ∧ (s.modTq k f).acqPast = s.acqPast ∧ (s.modTq k f).therm = s.therm ∧
    (s.modTq k f).bar = s.bar ∧ (s.modTq k f).spi = s.spi ∧ (s.modTq k f).phase = s.phase ∧
    (s.modTq k f).freeCtr = s.freeCtr := by
  and_intros <;> rfl

@[simp] theorem State.modSlot_frame (s : State) (i : Nat) (f : Slot → Slot) :
    (s.modSlot i f).pending = s.pending ∧ (s.modSlot i f).base = s.base ∧ (s.modSlot i f).frame = s.frame ∧
    (s.modSlot i f).ticks = s.ticks ∧ (s.modSlot i f).jumps = s.jumps ∧ (s.modSlot i f).boots = s.boots ∧
    (s.modSlot i f).mode = s.mode ∧ (s.modSlot i f).power = s.power ∧ (s.modSlot i f).boot = s.boot ∧
    (s.modSlot i f).modes = s.modes ∧ (s.modSlot i f).regs = s.regs ∧ (s.modSlot i f).shadow = s.shadow ∧
    (s.modSlot i f).dirty = s.dirty ∧ (s.modSlot i f).latches = s.latches ∧ (s.modSlot i f).staging = s.staging ∧
    (s.modSlot i f).mem = s.mem ∧ (s.modSlot i f).host = s.host ∧ (s.modSlot i f).commits = s.commits ∧
    (s.modSlot i f).seqs = s.seqs ∧ (s.modSlot i f).tqueues = s.tqueues ∧ (s.modSlot i f).plays = s.plays ∧
    (s.modSlot i f).clusters = s.clusters ∧ (s.modSlot i f).inputs = s.inputs ∧ (s.modSlot i f).dbits = s.dbits ∧
    (s.modSlot i f).dlog = s.dlog ∧ (s.modSlot i f).dwrites = s.dwrites ∧ (s.modSlot i f).perc = s.perc ∧
    (s.modSlot i f).rdsps = s.rdsps ∧ (s.modSlot i f).mes = s.mes ∧ (s.modSlot i f).trks = s.trks ∧
    (s.modSlot i f).baselines = s.baselines ∧ (s.modSlot i f).cap = s.cap ∧ (s.modSlot i f).gols = s.gols ∧
    (s.modSlot i f).sync = s.sync ∧ (s.modSlot i f).ntu = s.ntu ∧ (s.modSlot i f).biases = s.biases ∧
    (s.modSlot i f).stages = s.stages ∧ (s.modSlot i f).markers = s.markers ∧ (s.modSlot i f).voices = s.voices ∧
    (s.modSlot i f).chains = s.chains ∧ (s.modSlot i f).dac = s.dac ∧ (s.modSlot i f).was = s.was ∧
    (s.modSlot i f).past = s.past ∧ (s.modSlot i f).acqPast = s.acqPast ∧ (s.modSlot i f).therm = s.therm ∧
    (s.modSlot i f).bar = s.bar ∧ (s.modSlot i f).spi = s.spi ∧ (s.modSlot i f).phase = s.phase ∧
    (s.modSlot i f).freeCtr = s.freeCtr := by
  and_intros <;> rfl

@[simp] theorem State.modInput_frame (s : State) (n : Nat) (f : Input → Input) :
    (s.modInput n f).pending = s.pending ∧ (s.modInput n f).base = s.base ∧ (s.modInput n f).frame = s.frame ∧
    (s.modInput n f).ticks = s.ticks ∧ (s.modInput n f).jumps = s.jumps ∧ (s.modInput n f).boots = s.boots ∧
    (s.modInput n f).mode = s.mode ∧ (s.modInput n f).power = s.power ∧ (s.modInput n f).boot = s.boot ∧
    (s.modInput n f).modes = s.modes ∧ (s.modInput n f).regs = s.regs ∧ (s.modInput n f).shadow = s.shadow ∧
    (s.modInput n f).dirty = s.dirty ∧ (s.modInput n f).latches = s.latches ∧ (s.modInput n f).staging = s.staging ∧
    (s.modInput n f).mem = s.mem ∧ (s.modInput n f).host = s.host ∧ (s.modInput n f).commits = s.commits ∧
    (s.modInput n f).seqs = s.seqs ∧ (s.modInput n f).tqueues = s.tqueues ∧ (s.modInput n f).plays = s.plays ∧
    (s.modInput n f).clusters = s.clusters ∧ (s.modInput n f).slots = s.slots ∧ (s.modInput n f).dbits = s.dbits ∧
    (s.modInput n f).dlog = s.dlog ∧ (s.modInput n f).dwrites = s.dwrites ∧ (s.modInput n f).perc = s.perc ∧
    (s.modInput n f).rdsps = s.rdsps ∧ (s.modInput n f).mes = s.mes ∧ (s.modInput n f).trks = s.trks ∧
    (s.modInput n f).baselines = s.baselines ∧ (s.modInput n f).cap = s.cap ∧ (s.modInput n f).gols = s.gols ∧
    (s.modInput n f).sync = s.sync ∧ (s.modInput n f).ntu = s.ntu ∧ (s.modInput n f).biases = s.biases ∧
    (s.modInput n f).stages = s.stages ∧ (s.modInput n f).markers = s.markers ∧ (s.modInput n f).voices = s.voices ∧
    (s.modInput n f).chains = s.chains ∧ (s.modInput n f).dac = s.dac ∧ (s.modInput n f).was = s.was ∧
    (s.modInput n f).past = s.past ∧ (s.modInput n f).acqPast = s.acqPast ∧ (s.modInput n f).therm = s.therm ∧
    (s.modInput n f).bar = s.bar ∧ (s.modInput n f).spi = s.spi ∧ (s.modInput n f).phase = s.phase ∧
    (s.modInput n f).freeCtr = s.freeCtr := by
  and_intros <;> rfl

@[simp] theorem State.modRd_frame (s : State) (c : Nat) (f : Rdsp → Rdsp) :
    (s.modRd c f).pending = s.pending ∧ (s.modRd c f).base = s.base ∧ (s.modRd c f).frame = s.frame ∧
    (s.modRd c f).ticks = s.ticks ∧ (s.modRd c f).jumps = s.jumps ∧ (s.modRd c f).boots = s.boots ∧
    (s.modRd c f).mode = s.mode ∧ (s.modRd c f).power = s.power ∧ (s.modRd c f).boot = s.boot ∧
    (s.modRd c f).modes = s.modes ∧ (s.modRd c f).regs = s.regs ∧ (s.modRd c f).shadow = s.shadow ∧
    (s.modRd c f).dirty = s.dirty ∧ (s.modRd c f).latches = s.latches ∧ (s.modRd c f).staging = s.staging ∧
    (s.modRd c f).mem = s.mem ∧ (s.modRd c f).host = s.host ∧ (s.modRd c f).commits = s.commits ∧
    (s.modRd c f).seqs = s.seqs ∧ (s.modRd c f).tqueues = s.tqueues ∧ (s.modRd c f).plays = s.plays ∧
    (s.modRd c f).clusters = s.clusters ∧ (s.modRd c f).slots = s.slots ∧ (s.modRd c f).inputs = s.inputs ∧
    (s.modRd c f).dbits = s.dbits ∧ (s.modRd c f).dlog = s.dlog ∧ (s.modRd c f).dwrites = s.dwrites ∧
    (s.modRd c f).perc = s.perc ∧ (s.modRd c f).mes = s.mes ∧ (s.modRd c f).trks = s.trks ∧
    (s.modRd c f).baselines = s.baselines ∧ (s.modRd c f).cap = s.cap ∧ (s.modRd c f).gols = s.gols ∧
    (s.modRd c f).sync = s.sync ∧ (s.modRd c f).ntu = s.ntu ∧ (s.modRd c f).biases = s.biases ∧
    (s.modRd c f).stages = s.stages ∧ (s.modRd c f).markers = s.markers ∧ (s.modRd c f).voices = s.voices ∧
    (s.modRd c f).chains = s.chains ∧ (s.modRd c f).dac = s.dac ∧ (s.modRd c f).was = s.was ∧
    (s.modRd c f).past = s.past ∧ (s.modRd c f).acqPast = s.acqPast ∧ (s.modRd c f).therm = s.therm ∧
    (s.modRd c f).bar = s.bar ∧ (s.modRd c f).spi = s.spi ∧ (s.modRd c f).phase = s.phase ∧
    (s.modRd c f).freeCtr = s.freeCtr := by
  and_intros <;> rfl

@[simp] theorem State.modMe_frame (s : State) (c : Nat) (f : Me → Me) :
    (s.modMe c f).pending = s.pending ∧ (s.modMe c f).base = s.base ∧ (s.modMe c f).frame = s.frame ∧
    (s.modMe c f).ticks = s.ticks ∧ (s.modMe c f).jumps = s.jumps ∧ (s.modMe c f).boots = s.boots ∧
    (s.modMe c f).mode = s.mode ∧ (s.modMe c f).power = s.power ∧ (s.modMe c f).boot = s.boot ∧
    (s.modMe c f).modes = s.modes ∧ (s.modMe c f).regs = s.regs ∧ (s.modMe c f).shadow = s.shadow ∧
    (s.modMe c f).dirty = s.dirty ∧ (s.modMe c f).latches = s.latches ∧ (s.modMe c f).staging = s.staging ∧
    (s.modMe c f).mem = s.mem ∧ (s.modMe c f).host = s.host ∧ (s.modMe c f).commits = s.commits ∧
    (s.modMe c f).seqs = s.seqs ∧ (s.modMe c f).tqueues = s.tqueues ∧ (s.modMe c f).plays = s.plays ∧
    (s.modMe c f).clusters = s.clusters ∧ (s.modMe c f).slots = s.slots ∧ (s.modMe c f).inputs = s.inputs ∧
    (s.modMe c f).dbits = s.dbits ∧ (s.modMe c f).dlog = s.dlog ∧ (s.modMe c f).dwrites = s.dwrites ∧
    (s.modMe c f).perc = s.perc ∧ (s.modMe c f).rdsps = s.rdsps ∧ (s.modMe c f).trks = s.trks ∧
    (s.modMe c f).baselines = s.baselines ∧ (s.modMe c f).cap = s.cap ∧ (s.modMe c f).gols = s.gols ∧
    (s.modMe c f).sync = s.sync ∧ (s.modMe c f).ntu = s.ntu ∧ (s.modMe c f).biases = s.biases ∧
    (s.modMe c f).stages = s.stages ∧ (s.modMe c f).markers = s.markers ∧ (s.modMe c f).voices = s.voices ∧
    (s.modMe c f).chains = s.chains ∧ (s.modMe c f).dac = s.dac ∧ (s.modMe c f).was = s.was ∧
    (s.modMe c f).past = s.past ∧ (s.modMe c f).acqPast = s.acqPast ∧ (s.modMe c f).therm = s.therm ∧
    (s.modMe c f).bar = s.bar ∧ (s.modMe c f).spi = s.spi ∧ (s.modMe c f).phase = s.phase ∧
    (s.modMe c f).freeCtr = s.freeCtr := by
  and_intros <;> rfl

@[simp] theorem State.modTrk_frame (s : State) (c : Nat) (f : Trk → Trk) :
    (s.modTrk c f).pending = s.pending ∧ (s.modTrk c f).base = s.base ∧ (s.modTrk c f).frame = s.frame ∧
    (s.modTrk c f).ticks = s.ticks ∧ (s.modTrk c f).jumps = s.jumps ∧ (s.modTrk c f).boots = s.boots ∧
    (s.modTrk c f).mode = s.mode ∧ (s.modTrk c f).power = s.power ∧ (s.modTrk c f).boot = s.boot ∧
    (s.modTrk c f).modes = s.modes ∧ (s.modTrk c f).regs = s.regs ∧ (s.modTrk c f).shadow = s.shadow ∧
    (s.modTrk c f).dirty = s.dirty ∧ (s.modTrk c f).latches = s.latches ∧ (s.modTrk c f).staging = s.staging ∧
    (s.modTrk c f).mem = s.mem ∧ (s.modTrk c f).host = s.host ∧ (s.modTrk c f).commits = s.commits ∧
    (s.modTrk c f).seqs = s.seqs ∧ (s.modTrk c f).tqueues = s.tqueues ∧ (s.modTrk c f).plays = s.plays ∧
    (s.modTrk c f).clusters = s.clusters ∧ (s.modTrk c f).slots = s.slots ∧ (s.modTrk c f).inputs = s.inputs ∧
    (s.modTrk c f).dbits = s.dbits ∧ (s.modTrk c f).dlog = s.dlog ∧ (s.modTrk c f).dwrites = s.dwrites ∧
    (s.modTrk c f).perc = s.perc ∧ (s.modTrk c f).rdsps = s.rdsps ∧ (s.modTrk c f).mes = s.mes ∧
    (s.modTrk c f).baselines = s.baselines ∧ (s.modTrk c f).cap = s.cap ∧ (s.modTrk c f).gols = s.gols ∧
    (s.modTrk c f).sync = s.sync ∧ (s.modTrk c f).ntu = s.ntu ∧ (s.modTrk c f).biases = s.biases ∧
    (s.modTrk c f).stages = s.stages ∧ (s.modTrk c f).markers = s.markers ∧ (s.modTrk c f).voices = s.voices ∧
    (s.modTrk c f).chains = s.chains ∧ (s.modTrk c f).dac = s.dac ∧ (s.modTrk c f).was = s.was ∧
    (s.modTrk c f).past = s.past ∧ (s.modTrk c f).acqPast = s.acqPast ∧ (s.modTrk c f).therm = s.therm ∧
    (s.modTrk c f).bar = s.bar ∧ (s.modTrk c f).spi = s.spi ∧ (s.modTrk c f).phase = s.phase ∧
    (s.modTrk c f).freeCtr = s.freeCtr := by
  and_intros <;> rfl

@[simp] theorem State.modGol_frame (s : State) (p : Nat) (f : Gol → Gol) :
    (s.modGol p f).pending = s.pending ∧ (s.modGol p f).base = s.base ∧ (s.modGol p f).frame = s.frame ∧
    (s.modGol p f).ticks = s.ticks ∧ (s.modGol p f).jumps = s.jumps ∧ (s.modGol p f).boots = s.boots ∧
    (s.modGol p f).mode = s.mode ∧ (s.modGol p f).power = s.power ∧ (s.modGol p f).boot = s.boot ∧
    (s.modGol p f).modes = s.modes ∧ (s.modGol p f).regs = s.regs ∧ (s.modGol p f).shadow = s.shadow ∧
    (s.modGol p f).dirty = s.dirty ∧ (s.modGol p f).latches = s.latches ∧ (s.modGol p f).staging = s.staging ∧
    (s.modGol p f).mem = s.mem ∧ (s.modGol p f).host = s.host ∧ (s.modGol p f).commits = s.commits ∧
    (s.modGol p f).seqs = s.seqs ∧ (s.modGol p f).tqueues = s.tqueues ∧ (s.modGol p f).plays = s.plays ∧
    (s.modGol p f).clusters = s.clusters ∧ (s.modGol p f).slots = s.slots ∧ (s.modGol p f).inputs = s.inputs ∧
    (s.modGol p f).dbits = s.dbits ∧ (s.modGol p f).dlog = s.dlog ∧ (s.modGol p f).dwrites = s.dwrites ∧
    (s.modGol p f).perc = s.perc ∧ (s.modGol p f).rdsps = s.rdsps ∧ (s.modGol p f).mes = s.mes ∧
    (s.modGol p f).trks = s.trks ∧ (s.modGol p f).baselines = s.baselines ∧ (s.modGol p f).cap = s.cap ∧
    (s.modGol p f).sync = s.sync ∧ (s.modGol p f).ntu = s.ntu ∧ (s.modGol p f).biases = s.biases ∧
    (s.modGol p f).stages = s.stages ∧ (s.modGol p f).markers = s.markers ∧ (s.modGol p f).voices = s.voices ∧
    (s.modGol p f).chains = s.chains ∧ (s.modGol p f).dac = s.dac ∧ (s.modGol p f).was = s.was ∧
    (s.modGol p f).past = s.past ∧ (s.modGol p f).acqPast = s.acqPast ∧ (s.modGol p f).therm = s.therm ∧
    (s.modGol p f).bar = s.bar ∧ (s.modGol p f).spi = s.spi ∧ (s.modGol p f).phase = s.phase ∧
    (s.modGol p f).freeCtr = s.freeCtr := by
  and_intros <;> rfl

@[simp] theorem State.modBias_frame (s : State) (b : Nat) (f : Bias → Bias) :
    (s.modBias b f).pending = s.pending ∧ (s.modBias b f).base = s.base ∧ (s.modBias b f).frame = s.frame ∧
    (s.modBias b f).ticks = s.ticks ∧ (s.modBias b f).jumps = s.jumps ∧ (s.modBias b f).boots = s.boots ∧
    (s.modBias b f).mode = s.mode ∧ (s.modBias b f).power = s.power ∧ (s.modBias b f).boot = s.boot ∧
    (s.modBias b f).modes = s.modes ∧ (s.modBias b f).regs = s.regs ∧ (s.modBias b f).shadow = s.shadow ∧
    (s.modBias b f).dirty = s.dirty ∧ (s.modBias b f).latches = s.latches ∧ (s.modBias b f).staging = s.staging ∧
    (s.modBias b f).mem = s.mem ∧ (s.modBias b f).host = s.host ∧ (s.modBias b f).commits = s.commits ∧
    (s.modBias b f).seqs = s.seqs ∧ (s.modBias b f).tqueues = s.tqueues ∧ (s.modBias b f).plays = s.plays ∧
    (s.modBias b f).clusters = s.clusters ∧ (s.modBias b f).slots = s.slots ∧ (s.modBias b f).inputs = s.inputs ∧
    (s.modBias b f).dbits = s.dbits ∧ (s.modBias b f).dlog = s.dlog ∧ (s.modBias b f).dwrites = s.dwrites ∧
    (s.modBias b f).perc = s.perc ∧ (s.modBias b f).rdsps = s.rdsps ∧ (s.modBias b f).mes = s.mes ∧
    (s.modBias b f).trks = s.trks ∧ (s.modBias b f).baselines = s.baselines ∧ (s.modBias b f).cap = s.cap ∧
    (s.modBias b f).gols = s.gols ∧ (s.modBias b f).sync = s.sync ∧ (s.modBias b f).ntu = s.ntu ∧
    (s.modBias b f).stages = s.stages ∧ (s.modBias b f).markers = s.markers ∧ (s.modBias b f).voices = s.voices ∧
    (s.modBias b f).chains = s.chains ∧ (s.modBias b f).dac = s.dac ∧ (s.modBias b f).was = s.was ∧
    (s.modBias b f).past = s.past ∧ (s.modBias b f).acqPast = s.acqPast ∧ (s.modBias b f).therm = s.therm ∧
    (s.modBias b f).bar = s.bar ∧ (s.modBias b f).spi = s.spi ∧ (s.modBias b f).phase = s.phase ∧
    (s.modBias b f).freeCtr = s.freeCtr := by
  and_intros <;> rfl

@[simp] theorem State.modMarker_frame (s : State) (m : Nat) (f : Marker → Marker) :
    (s.modMarker m f).pending = s.pending ∧ (s.modMarker m f).base = s.base ∧ (s.modMarker m f).frame = s.frame ∧
    (s.modMarker m f).ticks = s.ticks ∧ (s.modMarker m f).jumps = s.jumps ∧ (s.modMarker m f).boots = s.boots ∧
    (s.modMarker m f).mode = s.mode ∧ (s.modMarker m f).power = s.power ∧ (s.modMarker m f).boot = s.boot ∧
    (s.modMarker m f).modes = s.modes ∧ (s.modMarker m f).regs = s.regs ∧ (s.modMarker m f).shadow = s.shadow ∧
    (s.modMarker m f).dirty = s.dirty ∧ (s.modMarker m f).latches = s.latches ∧
    (s.modMarker m f).staging = s.staging ∧ (s.modMarker m f).mem = s.mem ∧ (s.modMarker m f).host = s.host ∧
    (s.modMarker m f).commits = s.commits ∧ (s.modMarker m f).seqs = s.seqs ∧ (s.modMarker m f).tqueues = s.tqueues ∧
    (s.modMarker m f).plays = s.plays ∧ (s.modMarker m f).clusters = s.clusters ∧ (s.modMarker m f).slots = s.slots ∧
    (s.modMarker m f).inputs = s.inputs ∧ (s.modMarker m f).dbits = s.dbits ∧ (s.modMarker m f).dlog = s.dlog ∧
    (s.modMarker m f).dwrites = s.dwrites ∧ (s.modMarker m f).perc = s.perc ∧ (s.modMarker m f).rdsps = s.rdsps ∧
    (s.modMarker m f).mes = s.mes ∧ (s.modMarker m f).trks = s.trks ∧ (s.modMarker m f).baselines = s.baselines ∧
    (s.modMarker m f).cap = s.cap ∧ (s.modMarker m f).gols = s.gols ∧ (s.modMarker m f).sync = s.sync ∧
    (s.modMarker m f).ntu = s.ntu ∧ (s.modMarker m f).biases = s.biases ∧ (s.modMarker m f).stages = s.stages ∧
    (s.modMarker m f).voices = s.voices ∧ (s.modMarker m f).chains = s.chains ∧ (s.modMarker m f).dac = s.dac ∧
    (s.modMarker m f).was = s.was ∧ (s.modMarker m f).past = s.past ∧ (s.modMarker m f).acqPast = s.acqPast ∧
    (s.modMarker m f).therm = s.therm ∧ (s.modMarker m f).bar = s.bar ∧ (s.modMarker m f).spi = s.spi ∧
    (s.modMarker m f).phase = s.phase ∧ (s.modMarker m f).freeCtr = s.freeCtr := by
  and_intros <;> rfl

@[simp] theorem State.modStage_frame (s : State) (c : OutClass) (n : Nat) (f : Stage → Stage) :
    (s.modStage c n f).pending = s.pending ∧ (s.modStage c n f).base = s.base ∧ (s.modStage c n f).frame = s.frame ∧
    (s.modStage c n f).ticks = s.ticks ∧ (s.modStage c n f).jumps = s.jumps ∧ (s.modStage c n f).boots = s.boots ∧
    (s.modStage c n f).mode = s.mode ∧ (s.modStage c n f).power = s.power ∧ (s.modStage c n f).boot = s.boot ∧
    (s.modStage c n f).modes = s.modes ∧ (s.modStage c n f).regs = s.regs ∧ (s.modStage c n f).shadow = s.shadow ∧
    (s.modStage c n f).dirty = s.dirty ∧ (s.modStage c n f).latches = s.latches ∧
    (s.modStage c n f).staging = s.staging ∧ (s.modStage c n f).mem = s.mem ∧ (s.modStage c n f).host = s.host ∧
    (s.modStage c n f).commits = s.commits ∧ (s.modStage c n f).seqs = s.seqs ∧
    (s.modStage c n f).tqueues = s.tqueues ∧ (s.modStage c n f).plays = s.plays ∧
    (s.modStage c n f).clusters = s.clusters ∧ (s.modStage c n f).slots = s.slots ∧
    (s.modStage c n f).inputs = s.inputs ∧ (s.modStage c n f).dbits = s.dbits ∧ (s.modStage c n f).dlog = s.dlog ∧
    (s.modStage c n f).dwrites = s.dwrites ∧ (s.modStage c n f).perc = s.perc ∧ (s.modStage c n f).rdsps = s.rdsps ∧
    (s.modStage c n f).mes = s.mes ∧ (s.modStage c n f).trks = s.trks ∧ (s.modStage c n f).baselines = s.baselines ∧
    (s.modStage c n f).cap = s.cap ∧ (s.modStage c n f).gols = s.gols ∧ (s.modStage c n f).sync = s.sync ∧
    (s.modStage c n f).ntu = s.ntu ∧ (s.modStage c n f).biases = s.biases ∧ (s.modStage c n f).markers = s.markers ∧
    (s.modStage c n f).voices = s.voices ∧ (s.modStage c n f).chains = s.chains ∧ (s.modStage c n f).dac = s.dac ∧
    (s.modStage c n f).was = s.was ∧ (s.modStage c n f).past = s.past ∧ (s.modStage c n f).acqPast = s.acqPast ∧
    (s.modStage c n f).therm = s.therm ∧ (s.modStage c n f).bar = s.bar ∧ (s.modStage c n f).spi = s.spi ∧
    (s.modStage c n f).phase = s.phase ∧ (s.modStage c n f).freeCtr = s.freeCtr := by
  and_intros <;> rfl

@[simp] theorem State.modHq_frame (s : State) (q : Nat) (f : HostQ → HostQ) :
    (s.modHq q f).pending = s.pending ∧ (s.modHq q f).base = s.base ∧ (s.modHq q f).frame = s.frame ∧
    (s.modHq q f).ticks = s.ticks ∧ (s.modHq q f).jumps = s.jumps ∧ (s.modHq q f).boots = s.boots ∧
    (s.modHq q f).mode = s.mode ∧ (s.modHq q f).power = s.power ∧ (s.modHq q f).boot = s.boot ∧
    (s.modHq q f).modes = s.modes ∧ (s.modHq q f).regs = s.regs ∧ (s.modHq q f).shadow = s.shadow ∧
    (s.modHq q f).dirty = s.dirty ∧ (s.modHq q f).latches = s.latches ∧ (s.modHq q f).staging = s.staging ∧
    (s.modHq q f).mem = s.mem ∧ (s.modHq q f).commits = s.commits ∧ (s.modHq q f).seqs = s.seqs ∧
    (s.modHq q f).tqueues = s.tqueues ∧ (s.modHq q f).plays = s.plays ∧ (s.modHq q f).clusters = s.clusters ∧
    (s.modHq q f).slots = s.slots ∧ (s.modHq q f).inputs = s.inputs ∧ (s.modHq q f).dbits = s.dbits ∧
    (s.modHq q f).dlog = s.dlog ∧ (s.modHq q f).dwrites = s.dwrites ∧ (s.modHq q f).perc = s.perc ∧
    (s.modHq q f).rdsps = s.rdsps ∧ (s.modHq q f).mes = s.mes ∧ (s.modHq q f).trks = s.trks ∧
    (s.modHq q f).baselines = s.baselines ∧ (s.modHq q f).cap = s.cap ∧ (s.modHq q f).gols = s.gols ∧
    (s.modHq q f).sync = s.sync ∧ (s.modHq q f).ntu = s.ntu ∧ (s.modHq q f).biases = s.biases ∧
    (s.modHq q f).stages = s.stages ∧ (s.modHq q f).markers = s.markers ∧ (s.modHq q f).voices = s.voices ∧
    (s.modHq q f).chains = s.chains ∧ (s.modHq q f).dac = s.dac ∧ (s.modHq q f).was = s.was ∧
    (s.modHq q f).past = s.past ∧ (s.modHq q f).acqPast = s.acqPast ∧ (s.modHq q f).therm = s.therm ∧
    (s.modHq q f).bar = s.bar ∧ (s.modHq q f).spi = s.spi ∧ (s.modHq q f).phase = s.phase ∧
    (s.modHq q f).freeCtr = s.freeCtr := by
  and_intros <;> rfl

@[simp] theorem State.modPort_frame (s : State) (k : Nat) (f : Port → Port) :
    (s.modPort k f).pending = s.pending ∧ (s.modPort k f).base = s.base ∧ (s.modPort k f).frame = s.frame ∧
    (s.modPort k f).ticks = s.ticks ∧ (s.modPort k f).jumps = s.jumps ∧ (s.modPort k f).boots = s.boots ∧
    (s.modPort k f).mode = s.mode ∧ (s.modPort k f).power = s.power ∧ (s.modPort k f).boot = s.boot ∧
    (s.modPort k f).modes = s.modes ∧ (s.modPort k f).regs = s.regs ∧ (s.modPort k f).shadow = s.shadow ∧
    (s.modPort k f).dirty = s.dirty ∧ (s.modPort k f).latches = s.latches ∧ (s.modPort k f).staging = s.staging ∧
    (s.modPort k f).mem = s.mem ∧ (s.modPort k f).commits = s.commits ∧ (s.modPort k f).seqs = s.seqs ∧
    (s.modPort k f).tqueues = s.tqueues ∧ (s.modPort k f).plays = s.plays ∧ (s.modPort k f).clusters = s.clusters ∧
    (s.modPort k f).slots = s.slots ∧ (s.modPort k f).inputs = s.inputs ∧ (s.modPort k f).dbits = s.dbits ∧
    (s.modPort k f).dlog = s.dlog ∧ (s.modPort k f).dwrites = s.dwrites ∧ (s.modPort k f).perc = s.perc ∧
    (s.modPort k f).rdsps = s.rdsps ∧ (s.modPort k f).mes = s.mes ∧ (s.modPort k f).trks = s.trks ∧
    (s.modPort k f).baselines = s.baselines ∧ (s.modPort k f).cap = s.cap ∧ (s.modPort k f).gols = s.gols ∧
    (s.modPort k f).sync = s.sync ∧ (s.modPort k f).ntu = s.ntu ∧ (s.modPort k f).biases = s.biases ∧
    (s.modPort k f).stages = s.stages ∧ (s.modPort k f).markers = s.markers ∧ (s.modPort k f).voices = s.voices ∧
    (s.modPort k f).chains = s.chains ∧ (s.modPort k f).dac = s.dac ∧ (s.modPort k f).was = s.was ∧
    (s.modPort k f).past = s.past ∧ (s.modPort k f).acqPast = s.acqPast ∧ (s.modPort k f).therm = s.therm ∧
    (s.modPort k f).bar = s.bar ∧ (s.modPort k f).spi = s.spi ∧ (s.modPort k f).phase = s.phase ∧
    (s.modPort k f).freeCtr = s.freeCtr := by
  and_intros <;> rfl

@[simp] theorem State.queueTx_frame (s : State) (k : Nat) (t : TxFrame) :
    (s.queueTx k t).pending = s.pending ∧ (s.queueTx k t).base = s.base ∧ (s.queueTx k t).frame = s.frame ∧
    (s.queueTx k t).ticks = s.ticks ∧ (s.queueTx k t).jumps = s.jumps ∧ (s.queueTx k t).boots = s.boots ∧
    (s.queueTx k t).mode = s.mode ∧ (s.queueTx k t).power = s.power ∧ (s.queueTx k t).boot = s.boot ∧
    (s.queueTx k t).modes = s.modes ∧ (s.queueTx k t).regs = s.regs ∧ (s.queueTx k t).shadow = s.shadow ∧
    (s.queueTx k t).dirty = s.dirty ∧ (s.queueTx k t).latches = s.latches ∧ (s.queueTx k t).staging = s.staging ∧
    (s.queueTx k t).mem = s.mem ∧ (s.queueTx k t).commits = s.commits ∧ (s.queueTx k t).seqs = s.seqs ∧
    (s.queueTx k t).tqueues = s.tqueues ∧ (s.queueTx k t).plays = s.plays ∧ (s.queueTx k t).clusters = s.clusters ∧
    (s.queueTx k t).slots = s.slots ∧ (s.queueTx k t).inputs = s.inputs ∧ (s.queueTx k t).dbits = s.dbits ∧
    (s.queueTx k t).dlog = s.dlog ∧ (s.queueTx k t).dwrites = s.dwrites ∧ (s.queueTx k t).perc = s.perc ∧
    (s.queueTx k t).rdsps = s.rdsps ∧ (s.queueTx k t).mes = s.mes ∧ (s.queueTx k t).trks = s.trks ∧
    (s.queueTx k t).baselines = s.baselines ∧ (s.queueTx k t).cap = s.cap ∧ (s.queueTx k t).gols = s.gols ∧
    (s.queueTx k t).sync = s.sync ∧ (s.queueTx k t).ntu = s.ntu ∧ (s.queueTx k t).biases = s.biases ∧
    (s.queueTx k t).stages = s.stages ∧ (s.queueTx k t).markers = s.markers ∧ (s.queueTx k t).voices = s.voices ∧
    (s.queueTx k t).chains = s.chains ∧ (s.queueTx k t).dac = s.dac ∧ (s.queueTx k t).was = s.was ∧
    (s.queueTx k t).past = s.past ∧ (s.queueTx k t).acqPast = s.acqPast ∧ (s.queueTx k t).therm = s.therm ∧
    (s.queueTx k t).bar = s.bar ∧ (s.queueTx k t).spi = s.spi ∧ (s.queueTx k t).phase = s.phase ∧
    (s.queueTx k t).freeCtr = s.freeCtr := by
  and_intros <;> rfl

@[simp] theorem State.modSnap_frame (s : State) (n : Nat) (f : Snap → Snap) :
    (s.modSnap n f).pending = s.pending ∧ (s.modSnap n f).base = s.base ∧ (s.modSnap n f).frame = s.frame ∧
    (s.modSnap n f).ticks = s.ticks ∧ (s.modSnap n f).jumps = s.jumps ∧ (s.modSnap n f).boots = s.boots ∧
    (s.modSnap n f).mode = s.mode ∧ (s.modSnap n f).power = s.power ∧ (s.modSnap n f).boot = s.boot ∧
    (s.modSnap n f).modes = s.modes ∧ (s.modSnap n f).regs = s.regs ∧ (s.modSnap n f).shadow = s.shadow ∧
    (s.modSnap n f).dirty = s.dirty ∧ (s.modSnap n f).latches = s.latches ∧ (s.modSnap n f).staging = s.staging ∧
    (s.modSnap n f).mem = s.mem ∧ (s.modSnap n f).host = s.host ∧ (s.modSnap n f).commits = s.commits ∧
    (s.modSnap n f).seqs = s.seqs ∧ (s.modSnap n f).tqueues = s.tqueues ∧ (s.modSnap n f).plays = s.plays ∧
    (s.modSnap n f).clusters = s.clusters ∧ (s.modSnap n f).slots = s.slots ∧ (s.modSnap n f).inputs = s.inputs ∧
    (s.modSnap n f).dbits = s.dbits ∧ (s.modSnap n f).dlog = s.dlog ∧ (s.modSnap n f).dwrites = s.dwrites ∧
    (s.modSnap n f).perc = s.perc ∧ (s.modSnap n f).rdsps = s.rdsps ∧ (s.modSnap n f).mes = s.mes ∧
    (s.modSnap n f).trks = s.trks ∧ (s.modSnap n f).baselines = s.baselines ∧ (s.modSnap n f).gols = s.gols ∧
    (s.modSnap n f).sync = s.sync ∧ (s.modSnap n f).ntu = s.ntu ∧ (s.modSnap n f).biases = s.biases ∧
    (s.modSnap n f).stages = s.stages ∧ (s.modSnap n f).markers = s.markers ∧ (s.modSnap n f).voices = s.voices ∧
    (s.modSnap n f).chains = s.chains ∧ (s.modSnap n f).dac = s.dac ∧ (s.modSnap n f).was = s.was ∧
    (s.modSnap n f).past = s.past ∧ (s.modSnap n f).acqPast = s.acqPast ∧ (s.modSnap n f).therm = s.therm ∧
    (s.modSnap n f).bar = s.bar ∧ (s.modSnap n f).spi = s.spi ∧ (s.modSnap n f).phase = s.phase ∧
    (s.modSnap n f).freeCtr = s.freeCtr := by
  and_intros <;> rfl

@[simp] theorem State.modTrace_frame (s : State) (t : Nat) (f : Trace → Trace) :
    (s.modTrace t f).pending = s.pending ∧ (s.modTrace t f).base = s.base ∧ (s.modTrace t f).frame = s.frame ∧
    (s.modTrace t f).ticks = s.ticks ∧ (s.modTrace t f).jumps = s.jumps ∧ (s.modTrace t f).boots = s.boots ∧
    (s.modTrace t f).mode = s.mode ∧ (s.modTrace t f).power = s.power ∧ (s.modTrace t f).boot = s.boot ∧
    (s.modTrace t f).modes = s.modes ∧ (s.modTrace t f).regs = s.regs ∧ (s.modTrace t f).shadow = s.shadow ∧
    (s.modTrace t f).dirty = s.dirty ∧ (s.modTrace t f).latches = s.latches ∧ (s.modTrace t f).staging = s.staging ∧
    (s.modTrace t f).mem = s.mem ∧ (s.modTrace t f).host = s.host ∧ (s.modTrace t f).commits = s.commits ∧
    (s.modTrace t f).seqs = s.seqs ∧ (s.modTrace t f).tqueues = s.tqueues ∧ (s.modTrace t f).plays = s.plays ∧
    (s.modTrace t f).clusters = s.clusters ∧ (s.modTrace t f).slots = s.slots ∧ (s.modTrace t f).inputs = s.inputs ∧
    (s.modTrace t f).dbits = s.dbits ∧ (s.modTrace t f).dlog = s.dlog ∧ (s.modTrace t f).dwrites = s.dwrites ∧
    (s.modTrace t f).perc = s.perc ∧ (s.modTrace t f).rdsps = s.rdsps ∧ (s.modTrace t f).mes = s.mes ∧
    (s.modTrace t f).trks = s.trks ∧ (s.modTrace t f).baselines = s.baselines ∧ (s.modTrace t f).gols = s.gols ∧
    (s.modTrace t f).sync = s.sync ∧ (s.modTrace t f).ntu = s.ntu ∧ (s.modTrace t f).biases = s.biases ∧
    (s.modTrace t f).stages = s.stages ∧ (s.modTrace t f).markers = s.markers ∧ (s.modTrace t f).voices = s.voices ∧
    (s.modTrace t f).chains = s.chains ∧ (s.modTrace t f).dac = s.dac ∧ (s.modTrace t f).was = s.was ∧
    (s.modTrace t f).past = s.past ∧ (s.modTrace t f).acqPast = s.acqPast ∧ (s.modTrace t f).therm = s.therm ∧
    (s.modTrace t f).bar = s.bar ∧ (s.modTrace t f).spi = s.spi ∧ (s.modTrace t f).phase = s.phase ∧
    (s.modTrace t f).freeCtr = s.freeCtr := by
  and_intros <;> rfl

@[simp] theorem State.modLaunch_frame (s : State) (i : Nat) (f : Launch → Launch) :
    (s.modLaunch i f).pending = s.pending ∧ (s.modLaunch i f).base = s.base ∧ (s.modLaunch i f).frame = s.frame ∧
    (s.modLaunch i f).ticks = s.ticks ∧ (s.modLaunch i f).jumps = s.jumps ∧ (s.modLaunch i f).boots = s.boots ∧
    (s.modLaunch i f).mode = s.mode ∧ (s.modLaunch i f).power = s.power ∧ (s.modLaunch i f).boot = s.boot ∧
    (s.modLaunch i f).modes = s.modes ∧ (s.modLaunch i f).regs = s.regs ∧ (s.modLaunch i f).shadow = s.shadow ∧
    (s.modLaunch i f).dirty = s.dirty ∧ (s.modLaunch i f).latches = s.latches ∧
    (s.modLaunch i f).staging = s.staging ∧ (s.modLaunch i f).mem = s.mem ∧ (s.modLaunch i f).host = s.host ∧
    (s.modLaunch i f).commits = s.commits ∧ (s.modLaunch i f).seqs = s.seqs ∧ (s.modLaunch i f).tqueues = s.tqueues ∧
    (s.modLaunch i f).plays = s.plays ∧ (s.modLaunch i f).clusters = s.clusters ∧ (s.modLaunch i f).slots = s.slots ∧
    (s.modLaunch i f).inputs = s.inputs ∧ (s.modLaunch i f).dbits = s.dbits ∧ (s.modLaunch i f).dlog = s.dlog ∧
    (s.modLaunch i f).dwrites = s.dwrites ∧ (s.modLaunch i f).perc = s.perc ∧ (s.modLaunch i f).rdsps = s.rdsps ∧
    (s.modLaunch i f).mes = s.mes ∧ (s.modLaunch i f).trks = s.trks ∧ (s.modLaunch i f).baselines = s.baselines ∧
    (s.modLaunch i f).cap = s.cap ∧ (s.modLaunch i f).gols = s.gols ∧ (s.modLaunch i f).sync = s.sync ∧
    (s.modLaunch i f).biases = s.biases ∧ (s.modLaunch i f).stages = s.stages ∧
    (s.modLaunch i f).markers = s.markers ∧ (s.modLaunch i f).voices = s.voices ∧
    (s.modLaunch i f).chains = s.chains ∧ (s.modLaunch i f).dac = s.dac ∧ (s.modLaunch i f).was = s.was ∧
    (s.modLaunch i f).past = s.past ∧ (s.modLaunch i f).acqPast = s.acqPast ∧ (s.modLaunch i f).therm = s.therm ∧
    (s.modLaunch i f).bar = s.bar ∧ (s.modLaunch i f).spi = s.spi ∧ (s.modLaunch i f).phase = s.phase ∧
    (s.modLaunch i f).freeCtr = s.freeCtr := by
  and_intros <;> rfl

@[simp] theorem State.goto_frame (s : State) (q : Nat) (pc : BitVec 16) (n : Nat) :
    (s.goto q pc n).pending = s.pending ∧ (s.goto q pc n).base = s.base ∧ (s.goto q pc n).frame = s.frame ∧
    (s.goto q pc n).ticks = s.ticks ∧ (s.goto q pc n).jumps = s.jumps ∧ (s.goto q pc n).boots = s.boots ∧
    (s.goto q pc n).mode = s.mode ∧ (s.goto q pc n).power = s.power ∧ (s.goto q pc n).boot = s.boot ∧
    (s.goto q pc n).modes = s.modes ∧ (s.goto q pc n).regs = s.regs ∧ (s.goto q pc n).shadow = s.shadow ∧
    (s.goto q pc n).dirty = s.dirty ∧ (s.goto q pc n).latches = s.latches ∧ (s.goto q pc n).staging = s.staging ∧
    (s.goto q pc n).mem = s.mem ∧ (s.goto q pc n).host = s.host ∧ (s.goto q pc n).commits = s.commits ∧
    (s.goto q pc n).tqueues = s.tqueues ∧ (s.goto q pc n).plays = s.plays ∧ (s.goto q pc n).clusters = s.clusters ∧
    (s.goto q pc n).slots = s.slots ∧ (s.goto q pc n).inputs = s.inputs ∧ (s.goto q pc n).dbits = s.dbits ∧
    (s.goto q pc n).dlog = s.dlog ∧ (s.goto q pc n).dwrites = s.dwrites ∧ (s.goto q pc n).perc = s.perc ∧
    (s.goto q pc n).rdsps = s.rdsps ∧ (s.goto q pc n).mes = s.mes ∧ (s.goto q pc n).trks = s.trks ∧
    (s.goto q pc n).baselines = s.baselines ∧ (s.goto q pc n).cap = s.cap ∧ (s.goto q pc n).gols = s.gols ∧
    (s.goto q pc n).sync = s.sync ∧ (s.goto q pc n).ntu = s.ntu ∧ (s.goto q pc n).biases = s.biases ∧
    (s.goto q pc n).stages = s.stages ∧ (s.goto q pc n).markers = s.markers ∧ (s.goto q pc n).voices = s.voices ∧
    (s.goto q pc n).chains = s.chains ∧ (s.goto q pc n).dac = s.dac ∧ (s.goto q pc n).was = s.was ∧
    (s.goto q pc n).past = s.past ∧ (s.goto q pc n).acqPast = s.acqPast ∧ (s.goto q pc n).therm = s.therm ∧
    (s.goto q pc n).bar = s.bar ∧ (s.goto q pc n).spi = s.spi ∧ (s.goto q pc n).phase = s.phase ∧
    (s.goto q pc n).freeCtr = s.freeCtr := by
  and_intros <;> rfl

@[simp] theorem State.goNext_frame (s : State) (q : Nat) :
    (s.goNext q).pending = s.pending ∧ (s.goNext q).base = s.base ∧ (s.goNext q).frame = s.frame ∧
    (s.goNext q).ticks = s.ticks ∧ (s.goNext q).jumps = s.jumps ∧ (s.goNext q).boots = s.boots ∧
    (s.goNext q).mode = s.mode ∧ (s.goNext q).power = s.power ∧ (s.goNext q).boot = s.boot ∧
    (s.goNext q).modes = s.modes ∧ (s.goNext q).regs = s.regs ∧ (s.goNext q).shadow = s.shadow ∧
    (s.goNext q).dirty = s.dirty ∧ (s.goNext q).latches = s.latches ∧ (s.goNext q).staging = s.staging ∧
    (s.goNext q).mem = s.mem ∧ (s.goNext q).host = s.host ∧ (s.goNext q).commits = s.commits ∧
    (s.goNext q).tqueues = s.tqueues ∧ (s.goNext q).plays = s.plays ∧ (s.goNext q).clusters = s.clusters ∧
    (s.goNext q).slots = s.slots ∧ (s.goNext q).inputs = s.inputs ∧ (s.goNext q).dbits = s.dbits ∧
    (s.goNext q).dlog = s.dlog ∧ (s.goNext q).dwrites = s.dwrites ∧ (s.goNext q).perc = s.perc ∧
    (s.goNext q).rdsps = s.rdsps ∧ (s.goNext q).mes = s.mes ∧ (s.goNext q).trks = s.trks ∧
    (s.goNext q).baselines = s.baselines ∧ (s.goNext q).cap = s.cap ∧ (s.goNext q).gols = s.gols ∧
    (s.goNext q).sync = s.sync ∧ (s.goNext q).ntu = s.ntu ∧ (s.goNext q).biases = s.biases ∧
    (s.goNext q).stages = s.stages ∧ (s.goNext q).markers = s.markers ∧ (s.goNext q).voices = s.voices ∧
    (s.goNext q).chains = s.chains ∧ (s.goNext q).dac = s.dac ∧ (s.goNext q).was = s.was ∧
    (s.goNext q).past = s.past ∧ (s.goNext q).acqPast = s.acqPast ∧ (s.goNext q).therm = s.therm ∧
    (s.goNext q).bar = s.bar ∧ (s.goNext q).spi = s.spi ∧ (s.goNext q).phase = s.phase ∧
    (s.goNext q).freeCtr = s.freeCtr := by
  and_intros <;> rfl

@[simp] theorem State.haltSeq_frame (s : State) (q : Nat) :
    (s.haltSeq q).pending = s.pending ∧ (s.haltSeq q).base = s.base ∧ (s.haltSeq q).frame = s.frame ∧
    (s.haltSeq q).ticks = s.ticks ∧ (s.haltSeq q).jumps = s.jumps ∧ (s.haltSeq q).boots = s.boots ∧
    (s.haltSeq q).mode = s.mode ∧ (s.haltSeq q).power = s.power ∧ (s.haltSeq q).boot = s.boot ∧
    (s.haltSeq q).modes = s.modes ∧ (s.haltSeq q).regs = s.regs ∧ (s.haltSeq q).shadow = s.shadow ∧
    (s.haltSeq q).dirty = s.dirty ∧ (s.haltSeq q).latches = s.latches ∧ (s.haltSeq q).staging = s.staging ∧
    (s.haltSeq q).mem = s.mem ∧ (s.haltSeq q).host = s.host ∧ (s.haltSeq q).commits = s.commits ∧
    (s.haltSeq q).tqueues = s.tqueues ∧ (s.haltSeq q).plays = s.plays ∧ (s.haltSeq q).clusters = s.clusters ∧
    (s.haltSeq q).slots = s.slots ∧ (s.haltSeq q).inputs = s.inputs ∧ (s.haltSeq q).dbits = s.dbits ∧
    (s.haltSeq q).dlog = s.dlog ∧ (s.haltSeq q).dwrites = s.dwrites ∧ (s.haltSeq q).perc = s.perc ∧
    (s.haltSeq q).rdsps = s.rdsps ∧ (s.haltSeq q).mes = s.mes ∧ (s.haltSeq q).trks = s.trks ∧
    (s.haltSeq q).baselines = s.baselines ∧ (s.haltSeq q).cap = s.cap ∧ (s.haltSeq q).gols = s.gols ∧
    (s.haltSeq q).sync = s.sync ∧ (s.haltSeq q).ntu = s.ntu ∧ (s.haltSeq q).biases = s.biases ∧
    (s.haltSeq q).stages = s.stages ∧ (s.haltSeq q).markers = s.markers ∧ (s.haltSeq q).voices = s.voices ∧
    (s.haltSeq q).chains = s.chains ∧ (s.haltSeq q).dac = s.dac ∧ (s.haltSeq q).was = s.was ∧
    (s.haltSeq q).past = s.past ∧ (s.haltSeq q).acqPast = s.acqPast ∧ (s.haltSeq q).therm = s.therm ∧
    (s.haltSeq q).bar = s.bar ∧ (s.haltSeq q).spi = s.spi ∧ (s.haltSeq q).phase = s.phase ∧
    (s.haltSeq q).freeCtr = s.freeCtr := by
  and_intros <;> rfl

@[simp] theorem State.seq_modSeq (s : State) (q : Nat) (f : Seq → Seq) : (s.modSeq q f).seq q = f (s.seq q) :=
  sget_sset_same ..

theorem State.seq_modSeq_other (s : State) {q j : Nat} (f : Seq → Seq) (h : j ≠ q) :
    (s.modSeq q f).seq j = s.seq j := sget_sset_other _ _ _ h

@[simp] theorem State.cl_modCl (s : State) (c : Nat) (f : Cluster → Cluster) : (s.modCl c f).cl c = f (s.cl c) :=
  sget_sset_same ..

theorem State.cl_modCl_other (s : State) {c j : Nat} (f : Cluster → Cluster) (h : j ≠ c) :
    (s.modCl c f).cl j = s.cl j := sget_sset_other _ _ _ h

@[simp] theorem State.tq_modTq (s : State) (k : Nat) (f : TQueue → TQueue) : (s.modTq k f).tq k = f (s.tq k) :=
  sget_sset_same ..

theorem State.tq_modTq_other (s : State) {k j : Nat} (f : TQueue → TQueue) (h : j ≠ k) :
    (s.modTq k f).tq j = s.tq j := sget_sset_other _ _ _ h

@[simp] theorem State.slot_modSlot (s : State) (i : Nat) (f : Slot → Slot) : (s.modSlot i f).slot i = f (s.slot i) :=
  sget_sset_same ..

theorem State.slot_modSlot_other (s : State) {i j : Nat} (f : Slot → Slot) (h : j ≠ i) :
    (s.modSlot i f).slot j = s.slot j := sget_sset_other _ _ _ h

@[simp] theorem State.input_modInput (s : State) (n : Nat) (f : Input → Input) : (s.modInput n f).input n = f (s.input n) :=
  sget_sset_same ..

theorem State.input_modInput_other (s : State) {n j : Nat} (f : Input → Input) (h : j ≠ n) :
    (s.modInput n f).input j = s.input j := sget_sset_other _ _ _ h

@[simp] theorem State.rd_modRd (s : State) (c : Nat) (f : Rdsp → Rdsp) : (s.modRd c f).rd c = f (s.rd c) :=
  sget_sset_same ..

theorem State.rd_modRd_other (s : State) {c j : Nat} (f : Rdsp → Rdsp) (h : j ≠ c) :
    (s.modRd c f).rd j = s.rd j := sget_sset_other _ _ _ h

@[simp] theorem State.me_modMe (s : State) (c : Nat) (f : Me → Me) : (s.modMe c f).me c = f (s.me c) :=
  sget_sset_same ..

theorem State.me_modMe_other (s : State) {c j : Nat} (f : Me → Me) (h : j ≠ c) :
    (s.modMe c f).me j = s.me j := sget_sset_other _ _ _ h

@[simp] theorem State.trk_modTrk (s : State) (c : Nat) (f : Trk → Trk) : (s.modTrk c f).trk c = f (s.trk c) :=
  sget_sset_same ..

theorem State.trk_modTrk_other (s : State) {c j : Nat} (f : Trk → Trk) (h : j ≠ c) :
    (s.modTrk c f).trk j = s.trk j := sget_sset_other _ _ _ h

@[simp] theorem State.gol_modGol (s : State) (p : Nat) (f : Gol → Gol) : (s.modGol p f).gol p = f (s.gol p) :=
  sget_sset_same ..

theorem State.gol_modGol_other (s : State) {p j : Nat} (f : Gol → Gol) (h : j ≠ p) :
    (s.modGol p f).gol j = s.gol j := sget_sset_other _ _ _ h

@[simp] theorem State.bias_modBias (s : State) (b : Nat) (f : Bias → Bias) : (s.modBias b f).bias b = f (s.bias b) :=
  sget_sset_same ..

theorem State.bias_modBias_other (s : State) {b j : Nat} (f : Bias → Bias) (h : j ≠ b) :
    (s.modBias b f).bias j = s.bias j := sget_sset_other _ _ _ h

@[simp] theorem State.marker_modMarker (s : State) (m : Nat) (f : Marker → Marker) : (s.modMarker m f).marker m = f (s.marker m) :=
  sget_sset_same ..

theorem State.marker_modMarker_other (s : State) {m j : Nat} (f : Marker → Marker) (h : j ≠ m) :
    (s.modMarker m f).marker j = s.marker j := sget_sset_other _ _ _ h

@[simp] theorem State.hq_modHq (s : State) (q : Nat) (f : HostQ → HostQ) : (s.modHq q f).hq q = f (s.hq q) :=
  sget_sset_same ..

theorem State.hq_modHq_other (s : State) {q j : Nat} (f : HostQ → HostQ) (h : j ≠ q) :
    (s.modHq q f).hq j = s.hq j := sget_sset_other _ _ _ h

@[simp] theorem State.hport_modPort (s : State) (k : Nat) (f : Port → Port) : (s.modPort k f).hport k = f (s.hport k) :=
  sget_sset_same ..

theorem State.hport_modPort_other (s : State) {k j : Nat} (f : Port → Port) (h : j ≠ k) :
    (s.modPort k f).hport j = s.hport j := sget_sset_other _ _ _ h

@[simp] theorem State.snap_modSnap (s : State) (n : Nat) (f : Snap → Snap) : (s.modSnap n f).snap n = f (s.snap n) :=
  sget_sset_same ..

theorem State.snap_modSnap_other (s : State) {n j : Nat} (f : Snap → Snap) (h : j ≠ n) :
    (s.modSnap n f).snap j = s.snap j := sget_sset_other _ _ _ h

@[simp] theorem State.trace_modTrace (s : State) (t : Nat) (f : Trace → Trace) : (s.modTrace t f).trace t = f (s.trace t) :=
  sget_sset_same ..

theorem State.trace_modTrace_other (s : State) {t j : Nat} (f : Trace → Trace) (h : j ≠ t) :
    (s.modTrace t f).trace j = s.trace j := sget_sset_other _ _ _ h

@[simp] theorem State.launch_modLaunch (s : State) (i : Nat) (f : Launch → Launch) : (s.modLaunch i f).launch i = f (s.launch i) :=
  sget_sset_same ..

theorem State.launch_modLaunch_other (s : State) {i j : Nat} (f : Launch → Launch) (h : j ≠ i) :
    (s.modLaunch i f).launch j = s.launch j := sget_sset_other _ _ _ h

/-! ## Registers -/

@[simp] theorem State.reg_setReg (s : State) (a : Nat) (v : Word) : (s.setReg a v).reg a = v := sget_sset_same ..

theorem State.reg_setReg_other (s : State) {a b : Nat} (v : Word) (h : b ≠ a) : (s.setReg a v).reg b = s.reg b := by
  simp only [State.reg, State.setReg]
  exact sget_sset_default _ _ _ _ h

theorem State.reg_setFld_other (s : State) {a b : Nat} (hi lo v : Nat) (h : b ≠ a) :
    (s.setFld a hi lo v).reg b = s.reg b := State.reg_setReg_other s _ h

theorem State.reg_raise_other (s : State) {a b : Nat} (n : Nat) (h : b ≠ a) : (s.raise a n).reg b = s.reg b :=
  State.reg_setReg_other s _ h

/-! ## Byte memory (R10, R260, R265) -/

/-- A byte read back is the byte stored. -/
@[simp] theorem State.byteAt_setByte (s : State) (a : Nat) (b : Byte) : (s.setByte a b).byteAt a = b :=
  sget_sset_same ..

/-- A store leaves every other byte alone. -/
theorem State.byteAt_setByte_other (s : State) {a j : Nat} (b : Byte) (h : j ≠ a) :
    (s.setByte a b).byteAt j = s.byteAt j := sget_sset_other _ _ _ h

/-- Storing bytes leaves every byte outside them alone. -/
theorem State.byteAt_setBytes_outside (s : State) (a : Nat) (l : List Byte) {j : Nat}
    (h : j < a ∨ a + l.length ≤ j) : (s.setBytes a l).byteAt j = s.byteAt j := by
  induction l generalizing s a with
  | nil => rfl
  | cons b t ih =>
    simp only [List.length_cons] at h
    rw [State.setBytes, ih _ _ (by omega), State.byteAt_setByte_other _ _ (by omega)]

/-- Storing a byte keeps the memory's canonical form. -/
theorem State.setByte_wf (s : State) (a : Nat) (b : Byte) (h : Memory.wf s.mem = true) :
    Memory.wf (s.setByte a b).mem = true := swf_sset a b h

/-- Storing bytes keeps the memory's canonical form. -/
theorem State.setBytes_wf (s : State) (a : Nat) (l : List Byte) (h : Memory.wf s.mem = true) :
    Memory.wf (s.setBytes a l).mem = true := by
  induction l generalizing s a with
  | nil => exact h
  | cons b t ih => exact ih _ _ (s.setByte_wf a b h)

/-- Storing a word keeps the memory's canonical form. -/
theorem State.setMemWord_wf (s : State) (a v : Nat) (h : Memory.wf s.mem = true) :
    Memory.wf (s.setMemWord a v).mem = true := s.setBytes_wf a _ h

/-- Clearing some bytes keeps the memory's canonical form. -/
theorem Memory.filter_wf (m : List Host.Cell) (f : Host.Cell → Bool) (h : Memory.wf m = true) :
    Memory.wf (m.filter f) = true := swf_filter f h

/-- The memory of the machine right after reset is in canonical form. -/
theorem State.reset_mem_wf : Memory.wf State.reset.mem = true := rfl

end Sys2Proof.Machine
end

