-- ==== Sys2Proof/Laws/Rdsp.lean ====
section
/-!
SUPPORT. What issuing an instruction of an RDSP core does, and what its registers read as after a write.
-/
namespace Sys2Proof.Machine

/-! ## Registers (R317) -/

theorem Rdsp.getX_putX (r : Rdsp) (n k : Nat) (v : Word) : (r.putX n v).getX k = if k = n then v else r.getX k := by
  have e : (-1 : Word) = BitVec.allOnes 32 := by decide
  unfold Rdsp.putX Rdsp.putBits Rdsp.getX
  simp only [sget_sset, e]
  split
  · rw [BitVec.not_allOnes, BitVec.and_zero, BitVec.zero_or, BitVec.and_allOnes]
  · rfl

theorem Rdsp.getA_putA (r : Rdsp) (n k : Nat) (v : Int) :
    (r.putA n v).getA k = if k = n then BitVec.ofInt 40 v else r.getA k := by
  have e : (r.putA n v).acc = sset 0 r.acc n (BitVec.ofInt 40 v) := by
    unfold Rdsp.putA Rdsp.zn Rdsp.srBit
    simp only
    split <;> rfl
  unfold Rdsp.getA
  rw [e, sget_sset]

/-! ## Issue -/

/-- An instruction of a core that does not issue in this frame leaves the state as it is. -/
theorem State.rdIssueSkip_not_ready {s : State} {c : Nat} (k : Rdsp → Nat) (f : State → State)
    (h : s.rdReady c = false) : s.rdIssueSkip c k f = s := by simp [State.rdIssueSkip, h]

theorem State.mode_of_rdReady {s : State} {c : Nat} (h : s.rdReady c = true) : s.mode = .run := by
  simp only [State.rdReady, Bool.and_eq_true, decide_eq_true_eq] at h; exact h.1.1.1.1.1

theorem State.contained_of_rdReady {s : State} {c : Nat} (h : s.rdReady c = true) : s.contained c = false := by
  simp only [State.rdReady, Bool.and_eq_true, Bool.not_eq_true'] at h; exact h.1.1.1.1.2

theorem State.coreOnly_refl (s : State) (c : Nat) : s.coreOnly s c := ⟨rfl, fun _ _ => rfl⟩

theorem State.coreOnly_modRd {s t : State} {c : Nat} (h : s.coreOnly t c) (f : Rdsp → Rdsp) :
    s.coreOnly (t.modRd c f) c := by
  refine ⟨?_, fun k hk => ?_⟩
  · rw [h.1]; rfl
  · rw [← h.2 k hk]; exact sget_supd_other _ _ _ hk

/-- The place of the next word, outside repeats and delay slots. -/
theorem Rdsp.next_plain (r : Rdsp) (w : BitVec 14) (hr : r.reps = []) (hb : r.branch = none) :
    (r.next w 0).slotDone = { r with pc := w + 1 } := by
  obtain ⟨⟩ := r
  simp only at hr hb
  subst hr hb
  simp [Rdsp.next, Rdsp.slotDone]

theorem Rdsp.land_keeps (r : Rdsp) (w : Late1) :
    (r.land w).reps = r.reps ∧ (r.land w).branch = r.branch ∧ (r.land w).state = r.state ∧ (r.land w).pc = r.pc := by
  cases w <;> exact ⟨rfl, rfl, rfl, rfl⟩

theorem Rdsp.lands_keep (l : List Late1) (r : Rdsp) :
    (l.foldl Rdsp.land r).reps = r.reps ∧ (l.foldl Rdsp.land r).branch = r.branch := by
  induction l generalizing r with
  | nil => exact ⟨rfl, rfl⟩
  | cons w t ih =>
    have h := Rdsp.land_keeps r w
    simp only [List.foldl_cons]
    exact ⟨(ih _).1.trans h.1, (ih _).2.trans h.2.1⟩

/-- An instruction with an effect on the core alone, outside repeats and delay slots: its effect, then the writes of
the instruction before, and issue goes on at the next word in the next frame. -/
theorem State.rdLocal_plain {s : State} {c : Nat} (h : s.issuesPlain c) (f : Rdsp → Rdsp)
    (h4 : (f (s.rd c)).state ≠ 4) (hr : (f (s.rd c)).reps = []) (hb : (f (s.rd c)).branch = none) :
    s.coreOnly (s.rdLocal c f) c ∧
    (s.rdLocal c f).rd c =
      { (f (s.rd c)).delayed.foldl Rdsp.land { f (s.rd c) with delayed := (f (s.rd c)).fresh, fresh := [] } with
        delayed := (f (s.rd c)).fresh, accOld := (s.rd c).acc, srOld := (s.rd c).sr, nextIssue := s.frame + 1,
        pc := (s.rd c).pc + 1 } := by
  have hm := State.mode_of_rdReady h.1
  have hc := State.contained_of_rdReady h.1
  have hk : (s.modRd c f).contained c = false := hc
  have hs : ((s.modRd c f).rd c).state ≠ 4 := by rw [State.rd_modRd]; exact h4
  have e : s.rdLocal c f = (s.modRd c f).modRd c (fun x =>
      let landed := x.delayed.foldl Rdsp.land { x with delayed := x.fresh, fresh := [] }
      let landed := { landed with
        delayed := x.fresh, accOld := (s.rd c).acc, srOld := (s.rd c).sr, nextIssue := s.frame + 1 }
      (landed.next (s.rd c).pc 0).slotDone) := by
    unfold State.rdLocal State.rdIssue State.rdIssueSkip
    rw [h.1]
    simp only [Bool.not_true, Bool.false_eq_true, if_false]
    rw [if_neg]
    rintro (h1 | h1 | h1)
    · exact h1 hm
    · rw [hk] at h1; cases h1
    · exact hs h1
  refine ⟨?_, ?_⟩
  · rw [e]; exact State.coreOnly_modRd (State.coreOnly_modRd (State.coreOnly_refl s c) f) _
  · rw [e, State.rd_modRd, State.rd_modRd]
    have hl := Rdsp.lands_keep (f (s.rd c)).delayed { f (s.rd c) with delayed := (f (s.rd c)).fresh, fresh := [] }
    exact Rdsp.next_plain _ _ (hl.1.trans hr) (hl.2.trans hb)

end Sys2Proof.Machine
end

