-- ==== Sys2Proof/Laws/Seq.lean ====
section
/-!
SUPPORT. What issuing an instruction of a sequencer does, and what a sequencer's registers read as after a write.
-/
namespace Sys2Proof.Machine

/-! ## Registers (R139) -/

@[simp] theorem Seq.get_zero (x : Seq) : x.get 0 = 0 := rfl

theorem Seq.get_put (x : Seq) (i k : Nat) (v : Word) :
    (x.put i v).get k = if k = i ∧ k ≠ 0 then v else x.get k := by
  unfold Seq.put Seq.get
  by_cases hi : i = 0
  · subst hi; by_cases hk : k = 0 <;> simp [hk]
  · by_cases hk : k = 0
    · simp [hk]
    · simp only [hi, hk, if_false, sget_sset, ne_eq, not_false_eq_true, and_true]

theorem Seq.put_eq (x : Seq) (i : Nat) (v : Word) : x.put i v = { x with g := (x.put i v).g } := by
  unfold Seq.put; split <;> rfl

theorem Seq.getT_putT (x : Seq) (i k : Nat) (v : Long) : (x.putT i v).getT k = if k = i then v else x.getT k :=
  sget_sset ..

/-! ## Issue -/

theorem State.seqReady_of_issues {s : State} {q : Nat} {reads : List Nat} (h : s.issues q reads) :
    s.seqReady q = true := by
  obtain ⟨hm, hc, hs, hn, hw, -⟩ := h
  unfold State.seqReady
  rcases hs with hs | hs | hs | hs <;> simp [hm, hc, hs, hn, hw]

/-- An instruction that issues runs on a sequencer that runs, waits for nothing, and has no load in flight. -/
theorem State.issue_of_issues {s : State} {q : Nat} {reads : List Nat} (h : s.issues q reads) (f : State → State) :
    s.issue q reads f = f (s.modSeq q (fun x => { x with ldsReg := none, state := 1, wait := .none })) := by
  unfold State.issue
  rw [State.seqReady_of_issues h]
  simp only [Bool.not_true, Bool.false_eq_true, if_false]
  split
  · next r hr =>
    have := h.2.2.2.2.2 _ hr
    simp [this]
  · simp

/-- An instruction of a sequencer that does not issue in this frame leaves the state as it is. -/
theorem State.issue_not_ready {s : State} {q : Nat} (reads : List Nat) (f : State → State)
    (h : s.seqReady q = false) : s.issue q reads f = s := by
  simp [State.issue, h]

theorem State.seq_setSeq (s : State) (q : Nat) (v : Seq) : (s.setSeq q v).seq q = v := sget_sset_same ..

theorem State.seq_setSeq_other (s : State) {q k : Nat} (v : Seq) (h : k ≠ q) : (s.setSeq q v).seq k = s.seq k :=
  sget_sset_other _ _ _ h

/-- Two changes of one sequencer are one. -/
theorem State.seqIs_modSeq {s t : State} {q : Nat} {y : Seq} (h : s.seqIs t q y) (f : Seq → Seq) :
    s.seqIs (t.modSeq q f) q (f y) := by
  obtain ⟨h1, h2, h3⟩ := h
  refine ⟨?_, ?_, ?_⟩
  · rw [h1]; rfl
  · rw [State.seq_modSeq, h2]
  · intro k hk
    rw [State.seq_modSeq_other _ _ hk, h3 k hk]

theorem State.seqIs_refl (s : State) (q : Nat) : s.seqIs s q (s.seq q) := ⟨rfl, rfl, fun _ _ => rfl⟩

theorem State.seqIs_goNext {s t : State} {q : Nat} {y : Seq} (h : s.seqIs t q y) :
    s.seqIs (t.goNext q) q { y with pc := y.pc + 1, nextIssue := s.frame + 1 } := by
  have hf : t.frame = s.frame := by rw [h.1]
  have := State.seqIs_modSeq h (fun x => { x with pc := (t.seq q).pc + 1, nextIssue := t.frame + 1 })
  rw [h.2.1, hf] at this
  simpa only [State.goNext, State.goto, h.2.1, hf] using this

theorem State.seqIs_goto {s t : State} {q : Nat} {y : Seq} (h : s.seqIs t q y) (pc : BitVec 16) (n : Nat) :
    s.seqIs (t.goto q pc n) q { y with pc := pc, nextIssue := s.frame + n } := by
  have hf : t.frame = s.frame := by rw [h.1]
  have := State.seqIs_modSeq h (fun x => { x with pc := pc, nextIssue := t.frame + n })
  rw [hf] at this
  simpa only [State.goto, hf] using this

end Sys2Proof.Machine
end

