-- ==== Sys2Proof/Laws/Step.lean ====
section
/-!
SUPPORT. What one step does: the front command on the queue's rest, or the next part of the frame.
-/
namespace Sys2Proof.Machine

theorem step_cons (s : State) (c : Instr) (rest : List Instr) :
    step { s with pending := c :: rest } = exec c { s with pending := rest } := rfl

theorem step_of_pending {s : State} {c : Instr} {rest : List Instr} (h : s.pending = c :: rest) :
    step s = exec c { s with pending := rest } := by unfold step; rw [h]

theorem step_idle {s : State} (h : s.pending = []) : step s = .next s.idle := by unfold step; rw [h]

/-- No word spells a command: the opcode table gives its rows no bits. -/
theorem State.withFetchWord_eq (s : State) (nbits w : Nat) : s.withFetchWord nbits w = s := rfl

end Sys2Proof.Machine
end

