-- ==== Sys2Proof/WellFormed.lean ====
section
/-!
DEFINITION. Which commands and events the spec's channels and frames can carry at all: payload and frame
sizes, channel numbers within their class, one reading per sensor.
-/
namespace Sys2Proof

/-- A host command's payload is at most 8,192 bytes (R82). -/
def HostCmd.wf (c : HostCmd) : Bool := decide (c.payload.length ≤ 8192)

/-- A command or access path is well formed when its host command is. -/
def Src.wf : Src → Bool
  | .abral c => c.wf
  | .spi => true

def ReqSrc.wf : ReqSrc → Bool
  | .modeCmd c => c.wf
  | .reg p => p.wf

/-- The channels of a class (R3). -/
def OutClass.size : OutClass → Nat
  | .drv => 256
  | .prb => 32
  | .flx => 512
  | .pump => 16

/-- A received frame's fields agree with its bytes (R73). -/
def EthFrame.wf (f : EthFrame) : Bool := decide (f.raw.length + 4 = f.length)

/-- Whether a command or event can occur. -/
def Instr.wf : Instr → Bool
  | .reboot src | .portRetrain src _ | .ipCfgValid src _ _ | .clusterFaultClear src _
  | .hostCall src _ _ | .controlStoreInstall src _ _ | .programWordInstall src _ _ _
  | .carafeFlush src _ _ | .zone src _ _ | .mboxIn src _ _ | .pauliClear src _
  | .roundOriginWrite src _ | .roundLenWrite src _ | .traceOpen src _ _ | .traceClose src _ _
  | .snapArm src _ _ | .snapForce src _ _ | .cal src _ _ | .msgTx src _ _ | .msgRxData src _
  | .syncArm src _ | .syncGen src _ | .servoOffset src _ | .servoClear src _ | .resume src _
  | .ntuStep src _ | .launchArm src _ _ | .nvStore src _ _ | .nvCmd src _ | .taiRef src _
  | .registerWrite src _ _ => src.wf
  | .converterMode src c n _ | .channelEnable src c n _ => src.wf && decide (n.val < c.size)
  | .modeSettlingEnd c n => decide (n.val < c.size)
  | .modeSleep src | .modeWake src | .modeSafe src => src.wf
  | .start c | .stop c | .write c | .read c _ | .fill c | .streamBlock c | .commit c | .fence c
  | .pauliUpdate c | .recorderRead c | .recorderClear c _ | .recover c | .streamResend c _
  | .opcodeRefused c _ _ => c.wf
  | .receiveFrame _ f => f.wf
  | .ptpReceive _ f pos => f.wf && decide (pos < 50)
  | .thermalSample temps _ => decide (temps.length = 48)
  | .spiRead a _ _ => decide (a.toNat % 4 = 0)
  | .alwaysOnRailValid | .biasPwrupLoad .. | .resetNLow | .railOutOfWindow | .alwaysOnRailFall
  | .resetNRelease .. | .bootDone .. | .bootLoad .. | .wdog | .refclkLoss | .sleepEntry | .wakeAt
  | .wakeComplete | .startFrame | .stopFrame | .ack .. | .streamBlockRoom .. | .writePortStore ..
  | .groupCommit | .fenceComplete .. | .recoverEffect | .ackDelay .. | .cplRto .. | .streamFlush ..
  | .frameEnd .. | .linkDown .. | .linkLossSafe .. | .nop .. | .halt .. | .notify .. | .jmp ..
  | .call .. | .ret .. | .loop .. | .loopE .. | .brg .. | .brd .. | .brdResolution .. | .li ..
  | .lui .. | .add .. | .sub .. | .and .. | .or .. | .xor .. | .shl .. | .shr .. | .mul16 ..
  | .cmp .. | .lds .. | .sts .. | .wait .. | .waituntil .. | .syncr .. | .tlget .. | .play ..
  | .cplay .. | .flux .. | .probe .. | .acquire .. | .mark .. | .setf .. | .vz .. | .phrst ..
  | .publish .. | .waitd .. | .cmt .. | .fenceT .. | .fenceM .. | .fenceD .. | .fenceH .. | .meas ..
  | .round .. | .trackwin .. | .ucall .. | .undefinedOpcode .. | .eventAccept ..
  | .selectDeadline .. | .eventRelease .. | .markerPulseEnd .. | .latenessReport ..
  | .routineStart .. | .microword .. | .restart .. | .rangeSettlingEnd .. | .granuleFetch ..
  | .successorSelect .. | .successorStart .. | .carafeStop .. | .zoneSettlingEnd ..
  | .integrateDump .. | .stateCodeWrite .. | .dbitChangeCoalesced .. | .handIn ..
  | .chainResetEnd .. | .detectorBlock .. | .detectorRecordCoalesced .. | .rdspNop .. | .rdspHalt ..
  | .waiti .. | .ei .. | .di .. | .rdspLi .. | .rdspLui .. | .rdspAdd .. | .rdspSub .. | .rdspAnd ..
  | .rdspOr .. | .rdspXor .. | .rdspShl .. | .rdspShr .. | .shrl .. | .rdspCmp .. | .pack .. | .mv ..
  | .clr .. | .mvxa .. | .stax .. | .adda .. | .suba .. | .sra .. | .absa .. | .bita .. | .ld ..
  | .st .. | .lp .. | .lmi .. | .lml .. | .mvpx .. | .br .. | .rdspCall .. | .rdspRet .. | .reti ..
  | .rep .. | .rdspIn .. | .dst .. | .rdd .. | .res .. | .lio .. | .sio .. | .rdspParallel ..
  | .rdspInterrupt .. | .roundBoundary .. | .logicCellEval .. | .mergedRecord .. | .gap ..
  | .triggerEdge .. | .rearmEnd .. | .snapshotComplete .. | .trackerQuantum .. | .trackerUpdate ..
  | .flitTransmit .. | .flitReceive .. | .entryDue .. | .portTrain .. | .blockLockLoss ..
  | .calDone .. | .syncInPulse | .epochReload | .holdoverTimeout | .launchDue .. | .pairLatch
  | .biasTick .. | .rangeHoldEnd .. | .nvDieWrite .. | .roundMark | .noSyncr | .thermShutdown
  | .tokenRefill .. | .spiWrite .. | .spiPostedWord | .spiStatus | .linkUp .. | .railValid
  | .refclkReturn | .operatingHoursUpdate | .tentativeEntryDeadline .. | .spiCsNRaise => true

end Sys2Proof
end

