-- ==== Sys2Proof/Tests/Slice0.lean ====
section
/-!
SUPPORT. Tests: terms that no channel can carry are refused; words of the spec decode; single steps give the spec's
results; and for every statement about the model, states and operands that meet the hypotheses of each of its clauses
(theorem witness_<statement>).
-/
namespace Sys2Proof.Tests
open Sys2Proof.Machine

set_option Elab.async false

/-! ## States to step from -/

/-- A device in a mode, at frame 1,000,000 with the host's commands of the frame over, and with BOOT behind it. -/
def inMode (m : Mode) : State :=
  { State.reset with
    mode := m, frame := 1000000, ticks := 1000000, phase := 6, boot := { State.reset.boot with step := 5 } }

/-- The same in another frame. -/
def inFrame (s : State) (f : Nat) : State := { s with frame := f, ticks := f }

def inRun : State := inMode .run

/-- The same with some registers set. -/
def State.regsAre (s : State) (l : List (Nat × Nat)) : State := l.foldl (fun s p => s.setRegN p.1 p.2) s

/-- The answered state; the state itself where a command stops. -/
def out (i : Instr) (s : State) : State :=
  match exec i s with
  | .next t => t
  | _ => s

/-- Sequencer 9 runs, with TL 100 frames ahead. -/
def going : Seq := { Seq.init with state := 1, tl := 1000100, pc := 40, g := [(1, 7), (2, 0xFFFFFFFF), (3, 0x80000005)] }

def withSeq (x : Seq) : State := { inRun with seqs := [(9, x)] }

theorem issues_of {s : State} {q : Nat} (reads : List Nat)
    (h : s.mode = .run ∧ s.contained (q / 8) = false
      ∧ ((s.seq q).state = 1 ∨ (s.seq q).state = 2 ∨ (s.seq q).state = 3 ∨ (s.seq q).state = 5)
      ∧ (s.seq q).nextIssue ≤ s.frame ∧ ((s.seq q).wait = .none ∨ (s.seq q).wait = .fence) ∧ (s.seq q).ldsReg = none) :
    s.issues q reads :=
  ⟨h.1, h.2.1, h.2.2.1, h.2.2.2.1, h.2.2.2.2.1, fun r e => by rw [h.2.2.2.2.2] at e; cases e⟩

/-- A command of queue 0, as taken in. -/
def cmdOf (arg : Word) (p : List Byte) : HostCmd := ⟨0, 0, 7, 0, arg, p⟩
def takenOf (op : Byte) (arg : Word) (p : List Byte) : Taken := ⟨op, 0, cmdOf arg p, 3, none⟩

/-- The command unit holds that command, not started. -/
def asked (s : State) (op : Byte) (arg : Word) (p : List Byte) : State :=
  { s with host := { s.host with queues := [(0, { HostQ.init with waiting := [takenOf op arg p] })] } }

/-- The command unit holds it, started. -/
def started (s : State) (op : Byte) (arg : Word) (p : List Byte) : State :=
  { s with host := { s.host with queues := [(0, { HostQ.init with active := [takenOf op arg p] })] } }

/-! ## Ill-formed terms (R3, R73, R82) -/

theorem test_wf_long_payload : (Instr.write (cmdOf 0 (List.replicate 8193 0))).wf = false := by decide +kernel
theorem test_wf_payload : (Instr.write (cmdOf 0 (List.replicate 8192 0))).wf = true := by decide +kernel
theorem test_wf_source : (Instr.zone (.abral (cmdOf 0 (List.replicate 8193 0))) 0 0).wf = false
    ∧ (Instr.modeSafe (.modeCmd (cmdOf 0 (List.replicate 8193 0)))).wf = false := by decide +kernel
theorem test_wf_channels : (Instr.converterMode .spi .prb 32 0).wf = false ∧ (Instr.converterMode .spi .prb 31 0).wf = true
    ∧ (Instr.modeSettlingEnd .pump 16).wf = false ∧ (Instr.channelEnable .spi .drv 256 0).wf = false := by decide +kernel
theorem test_wf_sensors : (Instr.thermalSample [0] 0).wf = false := by decide +kernel
theorem test_wf_spi_address : (Instr.spiRead 2 1 .clean).wf = false := by decide +kernel
theorem test_wf_frame : (Instr.receiveFrame 0 ⟨true, 65, 0, 0, [], 0, none, [], List.replicate 60 0⟩).wf = false := by
  decide +kernel

/-! ## Words (R175, R192, R327 to R329): each is written from the spec's field tables -/

theorem test_word_cplay : decodeSeq 9 0x4106046040004000 = .cplay 9
    { tgt := 6, dbit := 140, dflt := false, rc := false, pf := 0, n0 := true, n1 := false, fs0 := 0, fs1 := 0,
      gs := 1, gp := 0 } := by decide +kernel
theorem test_word_unlisted : decodeSeq 9 0xFF00000000000000 = .undefinedOpcode 9 := by decide +kernel
theorem test_words : Obligations.WordsDecode := by
  unfold Obligations.WordsDecode; decide +kernel

/-! ## Tarfiger -/

theorem witness_TarfigerArithmetic : (withSeq going).issues 9 [1, 2] := issues_of _ (by decide +kernel)

theorem witness_TarfigerBranches :
    (withSeq { going with stack := List.replicate 7 (.call 3) }).issues 9 [1]
    ∧ ((withSeq { going with stack := List.replicate 7 (.call 3) }).seq 9).stack.length < 8
    ∧ (withSeq { going with stack := [.loop 5 9 2] }).issues 9 [] ∧ (withSeq { going with stack := [.loop 5 9 1] }).issues 9 []
    ∧ (withSeq { going with stack := [.call 3] }).issues 9 [] :=
  ⟨issues_of _ (by decide +kernel), by decide +kernel, issues_of _ (by decide +kernel), issues_of _ (by decide +kernel),
    issues_of _ (by decide +kernel)⟩

theorem witness_TarfigerStackErrors :
    (withSeq { going with stack := List.replicate 8 (.call 3) }).issues 9 [1]
    ∧ 8 ≤ ((withSeq { going with stack := List.replicate 8 (.call 3) }).seq 9).stack.length
    ∧ (withSeq going).issues 9 [] ∧ ((withSeq going).seq 9).stack = [] :=
  ⟨issues_of _ (by decide +kernel), by decide +kernel, issues_of _ (by decide +kernel), by decide +kernel⟩

theorem witness_TarfigerHaltAndNotify :
    (withSeq going).issues 9 [] ∧ ((withSeq going).seq 9).lastNotify = none ∧ (withSeq going).stagedBytes + 32 ≤ 65536
    ∧ (withSeq { going with lastNotify := some 991809 }).issues 9 [] ∧ (withSeq going).frame < 991809 + 8192 :=
  ⟨issues_of _ (by decide +kernel), by decide +kernel, by decide +kernel, issues_of _ (by decide +kernel), by decide +kernel⟩

/-- D-bit 140 is valid, and has been for longer than 2 frames. -/
def bitIsSet : State := { withSeq going with dbits := [(140, ⟨true, true, false, 0, false⟩)] }

theorem witness_TarfigerWaitingBranches :
    bitIsSet.issues 9 [] ∧ bitIsSet.dbitReady 140 false = true ∧ (withSeq going).dbitReady 140 false = false
    ∧ (withSeq { going with tl := 1000026 }).issues 9 [] ∧ ((1000026 : Int) - 26 ≤ (withSeq going).frame)
    ∧ ((withSeq going).frame < ((withSeq going).seq 9).tl.toNat - 26)
    ∧ ((withSeq { going with state := 4, wait := .dbit 140 false 1000000 none }).seq 9).wait = .dbit 140 false 1000000 none
    ∧ ((withSeq { going with state := 4, wait := .dbit 140 false 1000001 none }).seq 9).state = 4 :=
  ⟨issues_of _ (by decide +kernel), by decide +kernel, by decide +kernel, issues_of _ (by decide +kernel), by decide +kernel⟩

/-- Rounds of 1,000 frames from frame 0 (R24). -/
def rounds (s : State) : State := State.regsAre s [(0x108, 1000)]

theorem witness_TarfigerTimeline :
    (withSeq { going with t := [(1, 1000100), (2, 1000099)] }).issues 9 [3, 4]
    ∧ ((withSeq { going with t := [(1, 1000100)] }).seq 9).tl ≤ ((withSeq { going with t := [(1, 1000100)] }).seq 9).getT 1
    ∧ ((withSeq { going with t := [(2, 1000099)] }).seq 9).getT 2 < ((withSeq { going with t := [(2, 1000099)] }).seq 9).tl
    ∧ (withSeq going).roundLen = 0
    ∧ (rounds (withSeq going)).issues 9 [] ∧ (rounds (withSeq going)).roundLen ≠ 0 :=
  ⟨issues_of _ (by decide +kernel), by decide +kernel, by decide +kernel, by decide +kernel, issues_of _ (by decide +kernel),
    by decide +kernel⟩

theorem witness_TarfigerFences :
    (withSeq { going with lastTimed := some 999996, lastStore := some 1000001, lastPublish := some 999994 }).issues 9 []
    ∧ (∀ p ∈ (withSeq going).host.result.recs ++ (withSeq going).host.event.recs,
        p.2.length ≤ (withSeq going).maxPayload (withSeq going).streamPort none / 16 * 16)
    ∧ (out (.fenceH 9) (withSeq going)).host.fenceH = true ∧ inRun.host.fenceH = false :=
  ⟨issues_of _ (by decide +kernel), by decide +kernel⟩

theorem witness_TarfigerScratch :
    (withSeq { going with g := [(1, 15359), (2, 15360)] }).issues 9 [1, 2]
    ∧ (((withSeq { going with g := [(1, 15359)] }).seq 9).get 1 + 0).toNat % 16384 < 15360
    ∧ 15360 ≤ (((withSeq { going with g := [(2, 15360)] }).seq 9).get 2 + 0).toNat % 16384 :=
  ⟨issues_of _ (by decide +kernel), by decide +kernel⟩

/-- Sequencer 9 owns local targets 0 to 31, and 64 to 71, 96, 160 and 224 (R142). -/
def owning (s : State) : State :=
  State.regsAre s [(aSeq 9 0x40, 0xFFFFFFFF), (aSeq 9 0x48, 0xFF), (aSeq 9 0x4C, 1), (aSeq 9 0x54, 1), (aSeq 9 0x5C, 1)]

theorem witness_TarfigerTimedEvents :
    (owning (withSeq going)).issues 9 [1, 2] ∧ ((owning (withSeq going)).seq 9).tl.toNat ≤ 1000000 + 2 ^ 20
    ∧ (owning (withSeq going)).owns 9 6 = true ∧ (EvKind.play 3 0).drives 6 = true
    ∧ (owning (withSeq going)).owns 9 64 = true ∧ (EvKind.flux 3 0).drives 64 = true
    ∧ (owning (withSeq going)).owns 9 96 = true ∧ (EvKind.probe 3 0 false 0).drives 96 = true
    ∧ (owning (withSeq going)).owns 9 160 = true ∧ (EvKind.acquire 100 true false).drives 160 = true
    ∧ (owning (withSeq going)).owns 9 224 = true ∧ (EvKind.mark 5).drives 224 = true
    ∧ (EvKind.setf 0 0).drives 6 = true ∧ (EvKind.vz 0 0).drives 6 = true ∧ (EvKind.phrst 0 true).drives 6 = true
    ∧ ((owning (withSeq going)).tq (tkey 1 6)).size < 64 ∧ ((owning (withSeq going)).seq 9).stampsAt 1000100 < 2 :=
  ⟨issues_of _ (by decide +kernel), by decide +kernel⟩

/-- A phase event of sequencer 9 for the frame named. -/
def vzAt (t id : Nat) : Ev := ⟨9, t, 999900, .vz 0 0, false, false, id⟩

theorem witness_TarfigerTimedStalls :
    (withSeq { going with tl := BitVec.ofNat 64 (1000001 + 2 ^ 20) }).issues 9 []
    ∧ (withSeq going).frame + 2 ^ 20 < 1000001 + 2 ^ 20
    ∧ 64 ≤ (({ withSeq going with tqueues := [(tkey 1 6, ⟨[], List.replicate 64 (vzAt 1000090 0)⟩)] } : State).tq
        (tkey 1 6)).size
    ∧ (withSeq going).owns 9 6 = false ∧ (EvKind.mark 5).drives 6 = false :=
  ⟨issues_of _ (by decide +kernel), by decide +kernel⟩

theorem witness_PublishAndCmt :
    (withSeq going).issues 9 [1] ∧ groupListed 0x0100FF = false ∧ groupListed 0x0E000007 = true
    ∧ groupCluster 0x0E000007 = some (9 / 8) ∧ groupCluster 0x0E000003 = some 0 :=
  ⟨issues_of _ (by decide +kernel), by decide +kernel⟩

theorem witness_MacroOpsRequest : (withSeq going).issues 9 [30, 31, 0, 1] := issues_of _ (by decide +kernel)

theorem witness_LoadInterlock :
    ((withSeq { going with ldsReg := some 1 }).seq 9).ldsReg = some 1
    ∧ (withSeq { going with ldsReg := some 1 }).seqReady 9 = true
    ∧ (withSeq { going with nextIssue := 1000001 }).frame < ((withSeq { going with nextIssue := 1000001 }).seq 9).nextIssue := by
  decide +kernel

/-- Drive voice 6 of cluster 1 with events on their way and held. -/
def queue6 (f h : List Ev) : State := { inRun with tqueues := [(tkey 1 6, ⟨f, h⟩)] }

def ev (t issue : Nat) (k : EvKind) : Ev := ⟨9, t, issue, k, false, false, 1⟩

theorem witness_EventAcceptance :
    ((queue6 [ev 1000020 999996 (.play 3 0)] []).tq (tkey 1 6)).flight = [ev 1000020 999996 (.play 3 0)]
    ∧ 999996 + 4 ≤ (queue6 [] []).frame ∧ (999996 + 24 ≤ 1000020) ∧ ((queue6 [] []).frame < 999997 + 4)
    ∧ (1000019 < 999996 + 24)
    ∧ (∃ y ∈ ((queue6 [ev 1000020 999996 (.play 3 0)] [ev 1000021 999990 (.vz 0 1)]).tq (tkey 1 6)).held, 1000020 < y.t) := by
  decide +kernel

theorem witness_ConditionReports :
    (State.regsAre { inRun with frame := 65536 } [(aCl 1 0x800, 1)]).frame % 65536 = 0 ∧ inRun.frame % 65536 ≠ 0
    ∧ (({ inRun with frame := 65536, clusters := [(1, { Cluster.init with late := ⟨1, 1, 9, 6, 65000⟩ })] } : State).cl 1).late.count ≠ 0
    ∧ (State.regsAre { inRun with frame := 65536 } [(aCl 1 0x800, 1)]).fld (aCl 1 0x800) 0 0 = 1
    ∧ inRun.stagedBytes + 32 ≤ 65536 := by decide +kernel

/-- A CPLAY between segments 1 and 2 on D-bit 140. -/
def choice (v : Option Bool) : EvKind := .cplay ⟨140, false, false, 0, 0, false, false, 1, 2, 0, 0, v⟩

/-- Directory entry 4,097 of cluster 1: a valid constant segment of 3 granules (R265, R266). -/
def entrySet (s : State) : State :=
  { s with mem := [((aDir 4097 0) + 2, 0x10), ((aDir 4097 0) + 3, 0x0A), (aDir 4097 1, 3)] }

theorem witness_SelectAndRelease :
    ((queue6 [] [ev 1000004 999900 (choice none)]).tq (tkey 1 6)).held = [ev 1000004 999900 (choice none)]
    ∧ ({ queue6 [] [ev 1000004 999900 (choice none)] with dbits := [(140, ⟨true, true, false, 0, false⟩)] } : State).dbitReady
        140 false = true
    ∧ (queue6 [] []).dbitReady 140 false = false ∧ 1000004 ≤ (queue6 [] []).frame + 4
    ∧ ((queue6 [] [ev 1000000 999900 (.play 4097 3)]).tq (tkey 1 6)).held = [ev 1000000 999900 (.play 4097 3)]
    ∧ (entrySet inRun).entryPlays ((entrySet inRun).entry 4097) 1 6 false = true
    ∧ inRun.entryPlays (inRun.entry 4097) 1 6 false = false
    ∧ ((queue6 [] [ev 1000001 999900 (.vz 0 1)]).frame < 1000001) := by decide +kernel

theorem witness_TentativeEntries :
    ((queue6 [] [{ ev 1000004 999900 (.vz 0 1) with tentative := true }]).tq (tkey 1 6)).held
        = [{ ev 1000004 999900 (.vz 0 1) with tentative := true }]
    ∧ ((queue6 [] [{ ev 1000004 999900 (.vz 0 1) with tentative := true, rerun := true }]).tq (tkey 1 6)).held
        = [{ ev 1000004 999900 (.vz 0 1) with tentative := true, rerun := true }]
    ∧ (∀ e ∈ ((queue6 [] [{ ev 1000005 999900 (.vz 0 1) with tentative := true }]).tq (tkey 1 6)).held,
        e.tentative = false ∨ inRun.frame + 4 < e.t) := by decide +kernel

/-- R180: 0xFFFFFFFF + 7 wraps to 6 with carry, and 5 − 7 borrows. -/
theorem test_add_wraps :
    let t := out (.add 9 ⟨4, 2, 1, false, 0⟩) (withSeq going)
    (t.seq 9).get 4 = 6 ∧ (t.seq 9).c = true ∧ (t.seq 9).z = false ∧ (t.seq 9).pc = 41 := by decide +kernel
theorem test_sub_borrows :
    let t := out (.sub 9 ⟨4, 1, 0, true, 8⟩) (withSeq going)
    (t.seq 9).get 4 = 0xFFFFFFFF ∧ (t.seq 9).c = true ∧ (t.seq 9).n = true := by decide +kernel
theorem test_shr_sign_fills :
    (((out (.shr 9 ⟨4, 3, 0, true, 33⟩ true) (withSeq going)).seq 9).get 4 = 0xC0000002)
    ∧ (((out (.shr 9 ⟨4, 3, 0, true, 33⟩ false) (withSeq going)).seq 9).get 4 = 0x40000002) := by decide +kernel
theorem test_mul16_signed : ((out (.mul16 9 ⟨4, 2, 1, false, 0⟩) (withSeq going)).seq 9).get 4 = 0xFFFFFFF9 := by
  decide +kernel
theorem test_write_to_g0 : ((out (.add 9 ⟨0, 2, 1, false, 0⟩) (withSeq going)).seq 9).get 0 = 0 := by decide +kernel
/-- R183: a loop of 3 is at its second run after its first LOOP.E. -/
theorem test_loop :
    let s := withSeq { going with stack := [.loop 41 50 3], pc := 50 }
    ((out (.loopE 9) s).seq 9).pc = 41 ∧ ((out (.loopE 9) s).seq 9).stack = [.loop 41 50 2] := by decide +kernel
/-- R152: an event 2^20 + 1 frames ahead stalls for one frame. -/
theorem test_lead_stall :
    let t := out (.mark 9 224 5) (owning (withSeq { going with tl := BitVec.ofNat 64 (1000001 + 2 ^ 20) }))
    (t.seq 9).state = 3 ∧ (t.seq 9).nextIssue = 1000001 ∧ t.tqueues = [] := by decide +kernel
/-- R165: a CPLAY whose alternative is null lets the target go on. -/
theorem test_cplay_null :
    let p : Play := ⟨9, (entrySet inRun).entry 4097, 999990, 3, 32768, none, 0, 0, none, false, false, [], 0, none⟩
    let s := { queue6 [] [ev 1000000 999900 (.cplay ⟨140, false, false, 0, 0, true, false, 1, 2, 0, 0, some false⟩)] with
      plays := [(tkey 1 6, p)] }
    (out (.eventRelease 1 6 .clean) s).playOn (tkey 1 6) = some p := by decide +kernel
/-- R187, R268: a PLAY starts its segment in its play frame. -/
theorem test_play_starts :
    let s := { entrySet (queue6 [] [ev 1000000 999900 (.play 4097 3)]) with frame := 1000000 }
    ((out (.eventRelease 1 6 .clean) s).playOn (tkey 1 6)).map (fun p => (p.entry.len, p.slot, p.t)) = some (3, 3, 1000000) := by
  decide +kernel

/-! ## Host link and commands -/

/-- Port 0 out of bootstrap, its host at port 4,660 (R77, R78). -/
def linked : State := State.regsAre inRun [(aHostSet 0 0x3C, 1), (aHostSet 0 0x38, 0x12345678)]

/-- An Ethernet frame for that port that carries an Abral datagram of 32 bytes. -/
def ipOf : IpPart := ⟨false, 0, 0, false, 0x1234, 0x5678, true, true, 32⟩
def frameOf (l : List Byte) : EthFrame := ⟨true, 78, linked.macAt (aHostSet 0 0), 0, [], 0x0800, some ipOf, l, List.replicate 74 0⟩

/-- The datagram of a command of queue 0 with number `n` in epoch 0. -/
def datagram (n : Nat) : List Byte := [1, 0, 1, 0, 0, 0, 0, 0] ++ leBytes 4 n ++ List.replicate 20 0

theorem witness_CompletionForm : (takenOf 1 8 []).cmd.queue.val = 0 ∧ (List.replicate 8192 (0 : Byte)).length ≤ 8192 := by
  decide +kernel

theorem witness_CommandStart :
    (asked inRun 1 8 [0, 0, 0, 0]).canStart (takenOf 1 8 [0, 0, 0, 0]) = true
    ∧ (asked inRun 1 8 [0, 0, 0, 0]).myTurn (takenOf 1 8 [0, 0, 0, 0]) = true ∧ inRun.host.lastQueue < 64
    ∧ (asked { inRun with host := { inRun.host with lastStart := some 1000000 } } 5 0 []).myTurn (takenOf 5 0 []) = false
    ∧ (asked { inRun with host := { inRun.host with lastStart := some 1000000 } } 1 8 []).canStart (takenOf 1 8 []) = false
    ∧ (asked inRun 5 0 []).waitingCmd 5 (cmdOf 0 []) = some (takenOf 5 0 [])
    ∧ (asked inRun 6 0 []).waitingCmd 6 (cmdOf 0 []) = some (takenOf 6 0 []) := by decide +kernel

theorem witness_DatagramsTakenIn :
    linked.hostUp = true ∧ linked.portUsed 0 = true ∧ (linked.hport 0).up = true
    ∧ linked.ptpTransport 0 (frameOf (datagram 0)) = none ∧ linked.filterPasses 0 (frameOf (datagram 0)) ipOf = true
    ∧ linked.filterPasses 0 (frameOf (datagram 0)) { ipOf with dstPort := 0x5679 } = false
    ∧ badForm ipOf = false ∧ badForm { ipOf with irregular := true } = true ∧ linked.bootstrap 0 = false
    ∧ leAt (datagram 0) 0 1 = 1 ∧ leAt (datagram 0) 0x14 2 = 0 ∧ (datagram 0).length = 32
    ∧ leAt (datagram 0) 0x1C 4 = payloadCrc ((datagram 0).drop 32) ∧ leAt (datagram 0) 2 1 = 1
    ∧ leAt (datagram 0) 6 2 = linked.epoch ∧ (BitVec.ofNat 32 (leAt (datagram 0) 8 4) - (linked.hq 0).expect).toNat = 0
    ∧ (BitVec.ofNat 32 (leAt (datagram 1023) 8 4) - (linked.hq 0).expect).toNat = 1023
    ∧ (BitVec.ofNat 32 (leAt (datagram 1024) 8 4) - (linked.hq 0).expect).toNat = 1024
    ∧ (BitVec.ofNat 32 (leAt (datagram (2 ^ 32 - 1024)) 8 4) - (linked.hq 0).expect).toNat = 2 ^ 32 - 1024
    ∧ (BitVec.ofNat 32 (leAt (datagram (2 ^ 32 - 1025)) 8 4) - (linked.hq 0).expect).toNat = 2 ^ 32 - 1025 := by
  decide +kernel

/-- A completion sent at a frame, with the resends it has had. -/
def sent (at_ n : Nat) : Completion := ⟨0, 0, 0, 0x41, .ok, [], 0, at_, 200000, n, none⟩

/-- Port 0 lost its link in a frame. -/
def downFrom (s : State) (f : Nat) : State := s.modPort 0 (fun x => { x with up := false, downAt := f })

theorem witness_LinkRows :
    inRun.hostUp = true
    ∧ (({ inRun with host := { inRun.host with queues := [(0, { HostQ.init with ackFrom := some 998000 })] } } : State).hq 0).ackFrom
        = some 998000
    ∧ 998000 + inRun.fld 0x01000018 15 0 ≤ inRun.ticks ∧ inRun.ticks < 998001 + inRun.fld 0x01000018 15 0
    ∧ (sent 800000 8).sentAt + (sent 800000 8).interval ≤ inRun.ticks ∧ inRun.fld 0x01000014 19 16 ≤ (sent 800000 8).resends
    ∧ (sent 800000 7).resends < inRun.fld 0x01000014 19 16 ∧ (inRun.hport (inRun.queuePort 0)).up = true
    ∧ inRun.streaming = true ∧ 998000 + inRun.fld 0x0100001C 15 0 ≤ inRun.ticks
    ∧ 32 ≤ inRun.maxPayload inRun.streamPort none / 16 * 16 ∧ (inRun.hport 0).free ≤ inRun.ticks ∧ inRun.launchNext = none
    ∧ inRun.portUsed 0 = true ∧ State.reset.hostUp = false ∧ State.reset.portUsed 0 = true ∧ (inRun.hport 0).up = true
    ∧ ((downFrom inRun 5).hport 0).up = false ∧ inRun.fld 0x01000020 15 0 = 0
    ∧ (State.regsAre (downFrom (inFrame inRun 1000006) 5) [(0x01000020, 1)]).fld 0x01000020 15 0 = 1
    ∧ ((State.regsAre (downFrom (inFrame inRun 1000006) 5) [(0x01000020, 1)]).hport 0).downAt + 1000000 < 1000006 := by
  decide +kernel

theorem begins_write : (asked inRun 1 8 [1, 2, 3, 4]).begins 1 (cmdOf 8 [1, 2, 3, 4]) (takenOf 1 8 [1, 2, 3, 4]) := by
  unfold State.begins; decide +kernel

theorem witness_WriteReadFill :
    (asked inRun 1 8 [1, 2, 3, 4]).begins 1 (cmdOf 8 [1, 2, 3, 4]) (takenOf 1 8 [1, 2, 3, 4])
    ∧ (asked inRun 1 8 [1]).begins 1 (cmdOf 8 [1]) (takenOf 1 8 [1])
    ∧ (asked inRun 3 8 [1, 0, 0, 0, 4, 0, 0, 0]).begins 3 (cmdOf 8 [1, 0, 0, 0, 4, 0, 0, 0]) (takenOf 3 8 [1, 0, 0, 0, 4, 0, 0, 0])
    ∧ (asked inRun 2 8 [4, 0, 0, 0]).begins 2 (cmdOf 8 [4, 0, 0, 0]) (takenOf 2 8 [4, 0, 0, 0])
    ∧ waveSlice 8 = none ∧ inRun.cfgMode = true
    ∧ ((asked inRun 1 8 []).begin (takenOf 1 8 [1, 2, 3, 4])).writeRefused false false 8 [0x04030201] = none
    ∧ ((asked inRun 1 8 []).begin (takenOf 1 8 [1, 2, 3, 4])).writeRefused false false 0x0F000000 [0] = some (.addrRefused, 0x0F000000)
    ∧ ((asked inRun 2 8 []).begin (takenOf 2 8 [4, 0, 0, 0])).readRefused false 8 1 = none
    ∧ ((asked inRun 2 8 []).begin (takenOf 2 8 [4, 0, 0, 0])).readRefused false 0x0F000000 1 = some 0x0F000000
    ∧ eccProtected 8 = false ∧ eccProtected (aDir 0 0) = true := by
  refine ⟨begins_write, ?_, ?_, ?_, ?_⟩ <;> (try unfold State.begins) <;> decide +kernel

/-- The write port of slice 1 with one job at its head. -/
def porting (n : Nat) : State :=
  { inRun with clusters := [(1, { Cluster.init with port :=
    [⟨.write 0x81000000, List.replicate n 5, 1000000, some (takenOf 1 0x81000000 []), false, false, false⟩] })] }

theorem witness_WaveformPorts :
    (asked inRun 1 0x81000000 [1, 2, 3, 4]).begins 1 (cmdOf 0x81000000 [1, 2, 3, 4]) (takenOf 1 0x81000000 [1, 2, 3, 4])
    ∧ waveSlice 0x81000000 = some 1
    ∧ ((asked inRun 1 0 []).begin (takenOf 1 0x81000000 [1, 2, 3, 4])).writeRefused false false 0x81000000 [0x04030201] = none
    ∧ ((porting 256).cl 1).port = [⟨.write 0x81000000, List.replicate 256 5, 1000000, some (takenOf 1 0x81000000 []), false, false, false⟩]
    ∧ (256 < (List.replicate 257 (5 : Byte)).length) ∧ (started inRun 2 0x81000000 []).activeCmd 2 (cmdOf 0x81000000 [])
        = some (takenOf 2 0x81000000 []) := by
  refine ⟨by unfold State.begins; decide +kernel, ?_⟩; decide +kernel

theorem witness_StreamBlocksAndFences :
    (asked inRun 4 1 (List.replicate 16 0)).begins 4 (cmdOf 1 (List.replicate 16 0)) (takenOf 4 1 (List.replicate 16 0))
    ∧ inRun.ringSize 1 ≠ 0 ∧ inRun.ringRoom 1 [] 16 = true ∧ inRun.ringRoom 1 [] (2097152 + 16) = false
    ∧ (([⟨.stream, [], 0, none, false, false, true⟩] : List PortJob).all fun j => j.held) = true
    ∧ (asked inRun 6 0 []).begins 6 (cmdOf 0 []) (takenOf 6 0 [])
    ∧ ((asked inRun 6 0 []).begin (takenOf 6 0 [])).fenceMet (takenOf 6 0 []) = true
    ∧ (({ inRun with host := { inRun.host with queues := [(0, { HostQ.init with
          active := [{ takenOf 1 8 [] with order := 2 }, takenOf 6 0 []] })] } } : State)).fenceMet (takenOf 6 0 []) = false := by
  refine ⟨by unfold State.begins; decide +kernel, ?_, ?_, ?_, ?_, by unfold State.begins; decide +kernel, ?_, ?_⟩ <;> decide +kernel

/-- A COMMIT payload: F, then FLX_PRED 3. -/
def commitPayload (f : Nat) : List Byte := leBytes 8 f ++ leBytes 4 0x05000003

theorem witness_CommitsTakeEffect :
    (asked inRun 5 1 (commitPayload 1000001)).begins 5 (cmdOf 1 (commitPayload 1000001)) (takenOf 5 1 (commitPayload 1000001))
    ∧ (∀ g ∈ payloadWords ((commitPayload 0).drop 8), groupListed g.toNat = true) ∧ groupListed 0x05000200 = false
    ∧ inRun.boundaryFrom (inRun.frame + 1) = none ∧ inRun.roundLen = 0
    ∧ (rounds inRun).boundaryFrom ((rounds inRun).frame + 1) = some 1001000
    ∧ leAt (commitPayload (1000000 + 2 ^ 32)) 0 8 = 1000000 + 2 ^ 32
    ∧ (({ inRun with commits := [⟨1000000, [0x05000003], some (takenOf 5 0 []), 0, 1⟩] } : State)).commits
        = [⟨1000000, [BitVec.ofNat 32 (0x05000000 + 3)], some (takenOf 5 0 []), 0, 1⟩]
    ∧ (∀ k ∈ (({ inRun with commits := [⟨1000001, [], none, 0, 1⟩] } : State)).commits, inRun.frame < k.frame) := by
  have z : ((payloadWords ((commitPayload 0).drop 8)).all fun g => groupListed g.toNat) = true := by decide +kernel
  refine ⟨by unfold State.begins; decide +kernel, List.all_eq_true.mp z, ?_⟩; decide +kernel

/-- A device in SAFE that may recover (R136). -/
def inSafe : State := State.regsAre { inMode .safe with power := ⟨true, true, true, true, false, true⟩ } [(0x11C, 1)]

theorem witness_RecoveryCommands_1 :
    (asked (rounds inRun) 0xA 0 (leBytes 8 2001 ++ leBytes 4 0x10003)).begins 0xA (cmdOf 0 (leBytes 8 2001 ++ leBytes 4 0x10003))
        (takenOf 0xA 0 (leBytes 8 2001 ++ leBytes 4 0x10003))
    ∧ (rounds inRun).roundLen ≠ 0
    ∧ ((asked (rounds inRun) 0xA 0 []).begin (takenOf 0xA 0 (leBytes 8 2001 ++ leBytes 4 0x10003))).pauliFits
        (takenOf 0xA 0 (leBytes 8 2001 ++ leBytes 4 0x10003)) = true
    ∧ ({ inRun with perc := { inRun.perc with held := List.replicate 128 ⟨1, List.replicate 128 0, 0, false⟩ } } : State).pauliFits
        (takenOf 0xA 0 (leBytes 8 2001 ++ leBytes 4 0x10003)) = false := by
  refine ⟨?_, ?_, ?_, ?_⟩
  · unfold State.begins; decide +kernel
  · decide +kernel
  · decide +kernel
  · decide +kernel

theorem witness_RecoveryCommands_2 :
    (asked inRun 0xB 1024 (leBytes 4 1)).begins 0xB (cmdOf 1024 (leBytes 4 1)) (takenOf 0xB 1024 (leBytes 4 1))
    ∧ (asked inRun 0xB 9088 (leBytes 4 128)).begins 0xB (cmdOf 9088 (leBytes 4 128)) (takenOf 0xB 9088 (leBytes 4 128))
    ∧ 64 * 22 ≤ inRun.maxPayload (inRun.queuePort 0) none := by
  refine ⟨?_, ?_, by decide +kernel⟩
  · unfold State.begins; decide +kernel
  · unfold State.begins; decide +kernel

theorem witness_RecoveryCommands_3 :
    (asked inRun 0xC 0 []).begins 0xC (cmdOf 0 []) (takenOf 0xC 0 [])
    ∧ (asked inSafe 0xD 0 []).begins 0xD (cmdOf 0 []) (takenOf 0xD 0 [])
    ∧ ((asked inSafe 0xD 0 []).begin (takenOf 0xD 0 [])).recoverBad = none
    ∧ (started inSafe 0xD 0 []).allDone none 3 = true := by
  refine ⟨?_, ?_, ?_, ?_⟩
  · unfold State.begins; decide +kernel
  · unfold State.begins; decide +kernel
  · decide +kernel
  · decide +kernel

theorem witness_RecoveryCommands_4 :
    (asked inRun 0xE 0x80 (leBytes 4 (2 ^ 32 - 1) ++ leBytes 4 1)).begins 0xE (cmdOf 0x80 (leBytes 4 (2 ^ 32 - 1) ++ leBytes 4 1))
        (takenOf 0xE 0x80 (leBytes 4 (2 ^ 32 - 1) ++ leBytes 4 1))
    ∧ 2 ^ 31 ≤ (BitVec.ofNat 32 (leAt (leBytes 4 (2 ^ 32 - 1) ++ leBytes 4 1) 0 4) - inRun.host.result.next).toNat
    ∧ inRun.replayed 0x80 0xFFFFFFFF = none
    ∧ (asked inRun 0xF 0 []).canStart (takenOf 0xF 0 []) = true ∧ (0xE < (0xF : Byte).toNat) := by
  refine ⟨?_, ?_, ?_, ?_⟩
  · unfold State.begins; decide +kernel
  · decide +kernel
  · decide +kernel
  · decide +kernel

/-! ## Modes -/

theorem witness_ResetEntry :
    inRun.power.aon = true ∧ inRun.power.resetN = true ∧ inRun.power.rails = true
    ∧ ({ inRun with power := { inRun.power with aon := false } } : State).power.aon = false
    ∧ inRun.power.refclk = true ∧ inRun.power.mustCycle = false ∧ inRun.fld 0x03000000 1 0 ≠ 3 ∧ inRun.mode ≠ .reset
    ∧ 2 ≤ inRun.boot.step := by decide +kernel

/-- A device in RESET with a given supply. -/
def held (rails resetN refclk mustCycle : Bool) : State :=
  { State.reset with mode := .reset, power := ⟨true, rails, resetN, refclk, mustCycle, false⟩ }

theorem witness_BootBegins :
    (held true false true true).mode = .reset ∧ (held true false true true).power.aon = true
    ∧ (held true false true true).power.resetN = false ∧ (held true false true true).power.rails = true
    ∧ (held true false true true).fld 0x03000000 1 0 ≠ 3 ∧ (held false false true true).power.rails = false
    ∧ (held false true true false).power.mustCycle = false ∧ (held true true false false).power.refclk = false
    ∧ ({ inMode .ready with power := { inRun.power with refclk := false } } : State).boot.step = 5
    ∧ State.reset.mode = .boot ∧ State.reset.power.refclk = true
    ∧ ({ held true false true false with biases := [(3, { Bias.init with driven := false })] } : State).bias 3
        = { Bias.init with driven := false } ∧ (5 : BitVec 128).getLsbD 3 = false ∧ (8 : BitVec 128).getLsbD 3 = true := by
  decide +kernel

/-- An image that passes R513. -/
def goodImage : Image := ⟨0x46514657, 1, 0xB1, 0, true, true⟩

/-- A device in BOOT whose PATCH area holds a container of another magic number. -/
def badPatch : State := { State.reset with bar := { State.reset.bar with nv := [(0x1200000, 1)] } }

theorem badPatch_fails : containerOk 0x46514D50 (1 :: List.replicate 139 0) = false := by
  unfold containerOk containerCheck
  rw [if_pos (show leAt ((1 : Byte) :: List.replicate 139 0) 0 4 ≠ 0x46514D50 by decide)]
  cases Config.signed (1 :: List.replicate 139 0) <;> cases Config.tagged (1 :: List.replicate 139 0) <;> rfl

theorem witness_BootEnds :
    (State.reset.mode = .boot ∧ State.reset.boot.step = 1 ∧ State.reset.frame < 10000000
    ∧ ({ State.reset with frame := 10000000, boot := { State.reset.boot with loading := true } } : State).boot.loading = true
    ∧ goodImage.magic = 0x46514657 ∧ State.reset.bar.minFw ≤ goodImage.level ∧ State.reset.patches 1024 0x1200000 = []
    ∧ badPatch.mode = .boot ∧ badPatch.boot.step = 1
    ∧ sortBy patchLevel (badPatch.patches 1024 0x1200000) = [1 :: List.replicate 139 0]
    ∧ ((badPatch.undo id).mode = .boot ∧ (badPatch.undo id).boot = badPatch.boot ∧ (badPatch.undo id).bar = badPatch.bar)
    ∧ ¬ ({ goodImage with sigOk := false }).sigOk = true
    ∧ ({ State.reset with boot := { State.reset.boot with step := 4 } } : State).boot.step = 4
    ∧ (10000000 ≤ ({ State.reset with frame := 10000000 } : State).frame ∧ State.reset.boot.loading = false)
    ∧ State.reset.power.refclk = true ∧ (held true true false true).power.refclk = false)
    ∧ containerOk 0x46514D50 (1 :: List.replicate 139 0) = false := ⟨by decide +kernel, badPatch_fails⟩

theorem accepts_modeReq : (inMode .ready).accepts .spi 0x44 1 ∧ (inMode .sleep).accepts .spi 0x44 2
    ∧ inRun.accepts .spi 0x44 3 ∧ inRun.accepts .spi 0x44 4 := by
  unfold State.accepts; decide +kernel

theorem witness_ModeRequests :
    (asked (inMode .ready) 9 1 []).begins 9 (cmdOf 1 []) (takenOf 9 1 [])
    ∧ (asked (inMode .sleep) 9 2 []).begins 9 (cmdOf 2 []) (takenOf 9 2 [])
    ∧ (asked inRun 9 3 []).begins 9 (cmdOf 3 []) (takenOf 9 3 [])
    ∧ ((inMode .ready).accepts .spi 0x44 1 ∧ (inMode .sleep).accepts .spi 0x44 2 ∧ inRun.accepts .spi 0x44 3
      ∧ inRun.accepts .spi 0x44 4)
    ∧ (inMode .sleep).modes.wakeAt = none ∧ inRun.power.mustCycle = false ∧ inRun.power.resetN = true
    ∧ inRun.power.aon = true ∧ inRun.power.rails = true ∧ inRun.power.refclk = true ∧ inRun.fld 0x03000000 1 0 ≠ 3
    ∧ inRun.base = none ∧ inRun.cfgMode = true
    ∧ (asked inRun 1 0x44 (leBytes 4 4)).begins 1 (cmdOf 0x44 (leBytes 4 4)) (takenOf 1 0x44 (leBytes 4 4))
    ∧ (asked (inMode .safe) 9 3 []).begins 9 (cmdOf 3 []) (takenOf 9 3 [])
    ∧ (asked inRun 9 1 []).begins 9 (cmdOf 1 []) (takenOf 9 1 [])
    ∧ (asked inRun 9 2 []).begins 9 (cmdOf 2 []) (takenOf 9 2 []) := by
  refine ⟨?_, ?_, ?_, accepts_modeReq, ?_, ?_, ?_, ?_, ?_, ?_, ?_, ?_, ?_, ?_, ?_, ?_, ?_⟩ <;> (try unfold State.begins) <;> decide +kernel

theorem witness_SleepAndWake :
    (let s : State := { inMode .ready with modes := { State.reset.modes with sleepAt := some 1000000, sleepCmd := some (takenOf 9 1 []) } };
      s.modes.sleepAt = some 1000000 ∧ s.mode = .ready ∧ s.modes.sleepCmd = some (takenOf 9 1 []))
    ∧ ({ inRun with modes := { State.reset.modes with sleepAt := some 1000000 } } : State).mode ≠ .ready
    ∧ inRun.modes.sleepAt = none
    ∧ (State.regsAre (inMode .sleep) [(0x4C, 1), (0x50, 1000000)]).fld 0x4C 0 0 = 1
    ∧ (State.regsAre (inMode .sleep) [(0x4C, 1), (0x50, 1000000)]).reg64 0x50 ≤ 1000000
    ∧ (inMode .sleep).modes.wakeAt = none
    ∧ (1000000 < (State.regsAre (inMode .sleep) [(0x4C, 1), (0x50, 1000001)]).reg64 0x50)
    ∧ (let s : State := { inMode .sleep with modes := { State.reset.modes with wakeAt := some 1000000, wakers := [takenOf 9 2 []] } };
      s.modes.wakeAt = some 1000000 ∧ s.modes.wakers = [takenOf 9 2 []]) := by
  decide +kernel

theorem witness_RunBegins :
    (asked (inMode .ready) 7 0 (leBytes 8 1000064)).begins 7 (cmdOf 0 (leBytes 8 1000064)) (takenOf 7 0 (leBytes 8 1000064))
    ∧ (inMode .ready).fld 0x04000010 0 0 = 0 ∧ (inMode .ready).sync.reloadAt = none ∧ (1000063 < (inMode .ready).frame + 64)
    ∧ (State.regsAre { inMode .ready with modes := { State.reset.modes with starts := [⟨1000000, takenOf 7 0 []⟩] } }
        [(aSeq 9 0, 1), (aSeq 9 4, 0x1234)]).fld (aSeq 9 0) 0 0 = 1
    ∧ ({ inMode .ready with modes := { State.reset.modes with starts := [⟨1000000, takenOf 7 0 []⟩] } } : State).modes.starts
        = [⟨1000000, takenOf 7 0 []⟩]
    ∧ (inMode .ready).modes.moved ≠ some 1000000
    ∧ ({ inMode .ready with modes := { State.reset.modes with moved := some 1000000 } } : State).modes.moved = some 1000000 := by
  refine ⟨by unfold State.begins; decide +kernel, ?_⟩; decide +kernel

theorem witness_StopIsTaken :
    (asked inRun 8 0 (leBytes 8 0)).begins 8 (cmdOf 0 (leBytes 8 0)) (takenOf 8 0 (leBytes 8 0))
    ∧ inRun.modes.shutdownAt = none
    ∧ (asked (inMode .ready) 8 0 (leBytes 8 0)).begins 8 (cmdOf 0 (leBytes 8 0)) (takenOf 8 0 (leBytes 8 0))
    ∧ (asked inRun 8 1 (leBytes 8 0)).begins 8 (cmdOf 1 (leBytes 8 0)) (takenOf 8 1 (leBytes 8 0))
    ∧ (asked inRun 8 0 []).begins 8 (cmdOf 0 []) (takenOf 8 0 [])
    ∧ (leBytes 8 0).length = 8 := by
  refine ⟨?_, ?_, ?_, ?_, ?_, ?_⟩ <;> (try unfold State.begins) <;> decide +kernel

theorem witness_RunEnds :
    ({ inRun with modes := { State.reset.modes with stops := [⟨1000000, takenOf 8 0 []⟩] } } : State).modes.stops
        = [⟨1000000, takenOf 8 0 []⟩]
    ∧ ({ inRun with modes := { State.reset.modes with stops := [⟨1000000, takenOf 8 0 []⟩] } } : State).modes.moved ≠ some 1000000
    ∧ inRun.frame < 1000001 := by decide +kernel

theorem witness_SafeEntry :
    inRun.mode ≠ .safe ∧ inRun.mode ≠ .reset ∧ inSafe.mode = .safe
    ∧ (inRun.undo id).mode ≠ .safe ∧ inRun.power.aon = true
    ∧ bitOf ((State.regsAre inRun [(0x60, 2)]).fld 0x60 15 0) 1 = true ∧ (State.regsAre inRun [(0x60, 2)]).contained 1 = false := by
  decide +kernel

/-- R62: a WAKE completes 350,000 frames on. -/
theorem test_wake : (out (.modeWake (.reg .spi)) (inMode .sleep)).modes.wakeAt = some 1350000
    ∧ (out (.modeWake (.modeCmd (cmdOf 2 []))) (asked (inMode .sleep) 9 2 [])).modes.wakeAt = some 1350000 := by decide +kernel
/-- R144: at START the pc is ENTRY and TL is S + 64. -/
theorem test_start :
    let s := State.regsAre { inMode .ready with modes := { State.reset.modes with starts := [⟨1000000, takenOf 7 0 []⟩] } }
      [(aSeq 9 0, 1), (aSeq 9 4, 0x1234)]
    let t := out .startFrame s
    (t.seq 9).pc = 0x1234 ∧ (t.seq 9).tl = 1000064 ∧ t.mode = .run := by decide +kernel
/-- R83: the CRC-32C of the nine digits. -/
theorem test_crc32c : crc32c [0x31, 0x32, 0x33, 0x34, 0x35, 0x36, 0x37, 0x38, 0x39] = 0xE3069283 := by decide +kernel
/-- R79: the header checksum of an IPv4 packet of 20 bytes, by hand: 192.168.0.1 to 192.168.0.199, TTL 64, UDP. -/
theorem test_ipv4_checksum :
    let h : NetHeader := { v6 := false, dstMac := 0, srcMac := 0, vlan := none, src := 0xC0A80001, dst := 0xC0A800C7, ttl := 64,
                           dscp := 0, srcPort := 0, dstPort := 0 }
    ((h.ipv4 0 (List.replicate 95 0)).drop 10).take 2 = [0xB8, 0x61] := by decide +kernel
/-- R131: a device fault brings the frame back to its boundary: a Pauli frame word changed within the frame is as it
was. -/
theorem test_safe_undoes :
    let s := State.regsAre { inRun with base := some inRun.toBody } [(0x60000100, 5)]
    s.reg 0x60000100 = 5 ∧ (s.undo id).reg 0x60000100 = 0 := by decide +kernel
/-- R96: a WRITE whose second word is mapped to nothing writes neither word. -/
theorem test_write_all_or_none :
    let t := out (.write (cmdOf 0x7C [1, 0, 0, 0, 2, 0, 0, 0])) (asked inRun 1 0x7C [1, 0, 0, 0, 2, 0, 0, 0])
    t.regs = inRun.regs ∧ ((t.hq 0).unacked.map (fun c => c.status)) = [.addrRefused] := by decide +kernel

/-! ## Register writes and units -/

/-- A word over the management SPI meets no refusal. -/
theorem spi_accepts {s : State} {a : Nat} {v : Word}
    (h : 5 < s.phase ∧ s.mode ≠ .reset ∧ s.spi.posted = [] ∧ s.spi.kept = 0 ∧ s.spiStoring = false ∧ s.writeMode true a = true
      ∧ ((s.spiPost (BitVec.ofNat 32 a) v false).spiDrop 1).writeRefused true false a [v] = none) : s.accepts .spi a v := h

theorem witness_RegisterWrites :
    inRun.accepts .spi 0x8 5 ∧ inRun.accepts .spi 0x48 3 ∧ inRun.accepts .spi 0 1
    ∧ inRun.accepts .spi (aDrv 0 0x1008) 7 ∧ inRun.accepts .spi (aDrv 255 (0x1000 + 0x20 * 127 + 8)) 7
    ∧ (asked inRun 1 8 [5, 0, 0, 0]).accepts (.abral (cmdOf 8 [5, 0, 0, 0])) 8 5
    ∧ (inRun.mode ≠ .reset ∧ inRun.spi.posted = [] ∧ inRun.spiStoring = false ∧ inRun.writeMode true 0x7C = true
      ∧ ((inRun.spiPost 0x7C 1 false).spiDrop 1).writeRefused true false 0x7C [1] = some (.addrRefused, 0x7C)) ∧ inRun.spiBusy = false := by
  refine ⟨spi_accepts (by decide +kernel), spi_accepts (by decide +kernel), spi_accepts (by decide +kernel),
    spi_accepts (by decide +kernel), spi_accepts (by decide +kernel),
    ⟨by decide +kernel, takenOf 1 8 [5, 0, 0, 0], ?_, by decide +kernel⟩, ?_, ?_⟩
  · unfold State.begins; decide +kernel
  · decide +kernel
  · decide +kernel

/-- A bit that the device sets in the frame of a W1C write stays set, and a count of the frame of a read stays in its
counter (R539). -/
theorem test_coincidence :
    (let s : State := { State.regsAre inRun [(0x48, 3)] with was := [(0x48, 1)] };
      (match exec (.registerWrite .spi 0x48 3) s with
        | .next t => some (t.reg 0x48)
        | _ => none) = some 2)
    ∧ (let s : State := { State.regsAre inRun [(0x0200005C, 7)] with was := [(0x0200005C, 4)] };
      (match exec (.spiRead 0x0200005C 1 .clean) s with
        | .next t => some (t.spi.data, t.reg 0x0200005C)
        | _ => none) = some ([4], 3)) := by decide +kernel

/-- A stage that settles until the frame named. -/
def settling (cls : OutClass) (n u : Nat) : State := { inRun with stages := [(stageKey cls n, ⟨900000, u, (Stage.init).range⟩)] }

theorem witness_OutputSettling :
    (inMode .ready).accepts .spi (aOut .drv 255) 0x101 ∧ inRun.accepts .spi (aOut .prb 0) 1 ∧ inRun.accepts .spi (aOut .flx 511) 1
    ∧ (inMode .ready).accepts .spi (aOut .pump 15) 0x100
    ∧ (900000 < 1000000) ∧ ((settling .drv 3 1000000).stage .drv 3).settleUntil ≤ (settling .drv 3 1000000).ticks
    ∧ (settling .flx 3 1000001).ticks < ((settling .flx 3 1000001).stage .flx 3).settleUntil
    ∧ (inMode .ready).accepts .spi (aAcq 31 0) 2 ∧ (inMode .ready).fld (aAcq 31 0) 1 0 ≠ 2
    ∧ (∀ o ∈ inRun.past, o.1 < inRun.ticks) ∧ (inRun.input 31).zones = []
    ∧ ((∀ z ∈ (({ inRun with inputs := [(4, { Input.init with zones := [999999] })] } : State).input 4).zones, 1000000 ≤ z + 10000)
      ∧ ∀ z ∈ (({ inRun with inputs := [(4, { Input.init with zones := [989999] })] } : State).input 4).zones, z + 10000 < 1000000)
    ∧ (inMode .ready).accepts .spi (aCl 15 0xC04) 1 :=
  ⟨spi_accepts (by decide +kernel), spi_accepts (by decide +kernel), spi_accepts (by decide +kernel),
    spi_accepts (by decide +kernel), by decide, by decide +kernel, by decide +kernel, spi_accepts (by decide +kernel),
    by decide +kernel, by decide +kernel, by decide +kernel, by decide +kernel, spi_accepts (by decide +kernel)⟩

/-- Cluster 3 has been contained since an earlier frame. -/
def faultLatched : State := { State.regsAre (inMode .ready) [(0x64, 8)] with was := [(0x64, 8)] }

/-- Staged words before the last one of a control-store word and of a program word. -/
theorem witness_UnitWrites :
    inRun.accepts .spi (aCl 3 0x1010) 0x80000080 ∧ inRun.hostBusy 3 = false
    ∧ ({ inRun with mes := [(3, { Me.init with hostReq := some ⟨true, 0, 128, [], 0, [], 0, []⟩ })] } : State).hostBusy 3 = true
    ∧ (inMode .ready).accepts .spi (0x90000000 + 32 * 12288 + 0x14) 1
    ∧ inRun.accepts .spi (aCl 15 (0x80000 + 8 * 65535 + 4)) 1
    ∧ inRun.accepts .spi (aRd 3 0x20) 1 ∧ (inRun.rd 3).mboxReq = false
    ∧ (inMode .ready).accepts .spi 0x60000024 1 ∧ (inMode .ready).accepts .spi 0x110 0 ∧ (inMode .ready).accepts .spi 0x108 1000
    ∧ (∀ q, q < 64 → ∀ x ∈ ((inMode .ready).hq q).active, x.op ≠ 0x0A)
    ∧ (faultLatched.accepts .spi 0x64 8 ∧ faultLatched.contained 3 = true
      ∧ bitOf ((8 : Word) &&& faultLatched.before 0x64).toNat 3 = true)
    ∧ (inMode .ready).accepts .spi 0x01000000 1 ∧ inRun.accepts .spi (aHostSet 0 0x3C) 0x400001
    ∧ bitOf (inRun.regN (aHostSet 0 0x3C)) 0 = false :=
  ⟨spi_accepts (by decide +kernel), by decide +kernel, by decide +kernel, spi_accepts (by decide +kernel),
    spi_accepts (by decide +kernel), spi_accepts (by decide +kernel), by decide +kernel, spi_accepts (by decide +kernel),
    spi_accepts (by decide +kernel), spi_accepts (by decide +kernel),
    fun q _ x h => by simp [State.hq, inMode, State.reset, HostUnit.init, HostQ.init] at h,
    ⟨spi_accepts (by decide +kernel), by decide +kernel, by decide +kernel⟩, spi_accepts (by decide +kernel),
    spi_accepts (by decide +kernel), by decide +kernel⟩

/-- The SPI with words posted. -/
def postedAre (l : List (Word × Word × Bool)) : State := { inRun with spi := { inRun.spi with posted := l } }

theorem witness_SpiRows :
    (inMode .reset).mode = .reset ∧ (inRun.spi.posted.length + (List.replicate 64 (0 : Word)).length ≤ 64)
    ∧ 64 ≤ (postedAre (List.replicate 64 (8, 1, false))).spi.posted.length
    ∧ (postedAre [(8, 1, false)]).spi.posted = [(8, 1, false)] ∧ (postedAre [(8, 1, false)]).spiStoring = false
    ∧ (postedAre [(8, 1, false)]).spi.read = none ∧ (postedAre [(8, 1, false)]).writeMode true 8 = true
    ∧ ({ postedAre [(0x44, 1, false)] with mode := .boot } : State).spi.posted = [(0x44, 1, false)]
    ∧ (postedAre [(8, 1, false)]).spiBusy = true ∧ inRun.spiBusy = false
    ∧ (({ inRun with spi := { inRun.spi with read := some (8, 1) } } : State).spi.read = some (8, 1)) := by decide +kernel

/-! ## Capture -/

/-- Snapshot 5 takes input 3's triggers; its state as named. -/
def snapIn (st : Nat) (x : Snap) : State :=
  State.regsAre { inRun with cap := { Cap.init with snap := [(5, x)] } } [(aSnap 5 0, 0x103), (aSnap 5 0xC, st)]

theorem witness_CaptureRows :
    inRun.accepts .spi (aTrace 63 0) 0x80000000 ∧ inRun.traceOpen 63 = false
    ∧ ((State.regsAre inRun [(aTrace 0 0, 0x80000000)]).accepts .spi (aTrace 0 0) 0
      ∧ (State.regsAre inRun [(aTrace 0 0, 0x80000000)]).traceOpen 0 = true)
    ∧ (State.regsAre inRun [(aSnap 31 8, 10)]).accepts .spi (aSnap 31 0) 0x80000000 ∧ inRun.accepts .spi (aSnap 0 0) 0x20000000
    ∧ (snapIn 2 ⟨0, 0, 0, 0, 0, false⟩).fld (aSnap 5 0xC) 1 0 = 2 ∧ (snapIn 1 ⟨1000000, 0, 0, 0, 0, false⟩).fld (aSnap 5 0xC) 1 0 = 1
    ∧ (snapIn 3 ⟨0, 999000, 999000, 1, 1, false⟩).fld (aSnap 5 0xC) 1 0 = 3
    ∧ ((snapIn 2 ⟨0, 0, 0, 0, 0, false⟩).fld (aSnap 5 0) 8 8 = 1 ∧ (snapIn 2 ⟨0, 0, 0, 0, 0, false⟩).fld (aSnap 5 0) 5 0 = 3)
    ∧ inRun.streaming = true ∧ (16 * inRun.ticks + 5 < 16 * inRun.ticks + 5 - 63 + 64)
    ∧ sget none ({ Cap.init with edges := [(3, some 15999942)] } : Cap).edges 3 = some 15999942
    ∧ ((snapIn 1 ⟨1000000, 0, 0, 0, 0, false⟩).snap 5).rearm ≤ inRun.ticks ∧ inRun.ticks < ((snapIn 1 ⟨1000001, 0, 0, 0, 0, false⟩).snap 5).rearm
    ∧ ((snapIn 3 ⟨0, 999000, 999000, 1, 1, false⟩).snap 5).doneAt ≤ inRun.ticks
    ∧ inRun.ticks < ((snapIn 3 ⟨0, 999990, 999990, 1, 100, false⟩).snap 5).doneAt
    ∧ ((({ inRun with cap := { Cap.init with trace := [(0, ⟨0, [], 999000, 4, 0, []⟩)] } } : State).trace 0).lost = 4)
    ∧ (State.regsAre inRun [(aTrace 0 0, 0x80000000)]).traceStaged 0 + 16 ≤ 65536
    ∧ ((⟨990, 1000000, 1, 2, 0, 0⟩ : Merge).due ≤ inRun.ticks) ∧ (inRun.ticks < (⟨991, 1001000, 1, 2, 0, 0⟩ : Merge).due)
    ∧ sget [] ({ Cap.init with merge := [(7, [⟨990, 1000000, 1, 2, 0, 0⟩])] } : Cap).merge 7 = [⟨990, 1000000, 1, 2, 0, 0⟩] :=
  ⟨spi_accepts (by decide +kernel), by decide +kernel, ⟨spi_accepts (by decide +kernel), by decide +kernel⟩,
    spi_accepts (by decide +kernel), spi_accepts (by decide +kernel), by decide +kernel⟩

/-! ## Gollet, epochs and network time -/

/-- Port 2 is UP, with the unit as named. -/
def glUp (x : Gol) : State := State.regsAre { inRun with gols := [(2, x)] } [(aGl 2 0, 1), (aGl 2 0xC, 2)]

/-- An UPDATE flit for group 3: TYPE 1, INDEX 3, valid 0xFF, values 0x81, with its CRC. -/
def updateFlit : Nat :=
  let f := 1 * 2 ^ 61 + 3 * 2 ^ 54 + 0xFF * 2 ^ 46 + 0x81 * 2 ^ 38
  f + flitCrc f
def msgFlit : Nat :=
  let f := 4 * 2 ^ 61 + 0x55 * 2 ^ 52 + 0x12345678 * 2 ^ 20
  f + flitCrc f

theorem witness_GolletRows_1 :
    (glUp .init).golState 2 = 2 ∧ (glUp .init).lanesOn = true
    ∧ ({ glUp .init with frame := 1000032 } : State).frame % 33 = (glUp .init).fld (aGl 2 0xC) 21 16
    ∧ inRun.frame % 33 ≠ (glUp .init).fld (aGl 2 0xC) 21 16
    ∧ ((glUp .init).gol 2).prevFrame + 1 ≠ (glUp .init).ticks
    ∧ (changedGroups ((glUp { Gol.init with last := [(1, 5)] }).gol 2).last ((glUp .init).outGroups 2)).length = 1
    ∧ 2 < (changedGroups ((glUp { Gol.init with last := [(1, 5), (2, 5), (3, 5)] }).gol 2).last ((glUp .init).outGroups 2)).length
    ∧ changedGroups ((glUp { Gol.init with txq := [(1, 5)] }).gol 2).last ((glUp .init).outGroups 2) = []
    ∧ inRun.golState 2 ≠ 2
    ∧ flitCrc (updateFlit + 1) ≠ bitsOf (updateFlit + 1) 15 0
    ∧ (flitCrc updateFlit = bitsOf updateFlit 15 0 ∧ bitsOf updateFlit 63 61 = 1 ∧ bitOf updateFlit 60 = false)
    ∧ (flitCrc msgFlit = bitsOf msgFlit 15 0 ∧ bitsOf msgFlit 63 61 = 4 ∧ bitOf msgFlit 60 = false)
    ∧ ((999960 + 39 + (glUp .init).fld (aGl 2 8) 7 0 < (glUp .init).frame)
      ∧ (glUp .init).frame ≤ 999961 + 39 + (glUp .init).fld (aGl 2 8) 7 0)
    ∧ 16 ≤ ((glUp { Gol.init with rxq := List.replicate 16 (0, 0) }).gol 2).rxq.length := by decide +kernel

theorem witness_GolletRows_2 :
    ((glUp { Gol.init with due := [⟨1000000, 999960, false, 8, 0xFF, 0x81⟩] }).gol 2).due = [⟨1000000, 999960, false, 8, 0xFF, 0x81⟩]
    ∧ ((8 : Word) = BitVec.ofNat 32 (2 ^ 3))
    ∧ (State.regsAre inRun [(aGl 2 0, 1), (aGl 2 4, 0x30007)]).fld (aGl 2 0) 0 0 = 1
    ∧ ((State.regsAre inRun [(aGl 2 0, 1), (aGl 2 4, 0x30007)]).fld (aGl 2 4) 15 0 = 7
      ∧ (State.regsAre inRun [(aGl 2 0, 1), (aGl 2 4, 0x30007)]).fld (aGl 2 4) 18 16 = 3)
    ∧ (State.regsAre inRun [(aGl 2 0, 1), (aGl 2 4, 0x30007)]).golState 2 ≠ 2
    ∧ ({ glUp .init with mode := .ready } : State).accepts .spi (aGl 2 0) 3
    ∧ ((glUp { Gol.init with calOn := true, calMax := 60 }).gol 2).calOn = true
    ∧ ((60 - 39 : Int).toNat + (glUp .init).fld (aGl 2 8) 19 16 < 256)
    ∧ (glUp .init).accepts .spi (aGl 2 0x24) 0x55
    ∧ 16 ≤ ((glUp { Gol.init with txq := List.replicate 16 (0, 0) }).gol 2).txq.length
    ∧ ((glUp { Gol.init with rxq := [(1, 5)] }).gol 2).rxq = [(1, 5)] ∧ (glUp .init).spiBusy = false
    ∧ (asked inRun 2 (BitVec.ofNat 32 (aGl 2 0x2C)) [4, 0, 0, 0]).begins 2 (cmdOf (BitVec.ofNat 32 (aGl 2 0x2C)) [4, 0, 0, 0])
        (takenOf 2 (BitVec.ofNat 32 (aGl 2 0x2C)) [4, 0, 0, 0])
    ∧ 4 ≤ inRun.maxPayload (inRun.queuePort 0) none := by
  refine ⟨?_, ?_, ?_, ?_, ?_, spi_accepts (by decide +kernel), ?_, ?_, spi_accepts (by decide +kernel), ?_, ?_, ?_, ?_, ?_⟩ <;>
    (try unfold State.begins) <;> decide +kernel

/-- The epoch is armed for a pulse; the reload frame as named. -/
def armed (at_ : Option Nat) : State :=
  State.regsAre { inRun with sync := { inRun.sync with reloadAt := at_ } } [(0x04000010, 1)]

theorem witness_EpochRows :
    (inMode .ready).accepts .spi 0x04000010 1 ∧ inRun.accepts .spi 0x04000010 0x202 ∧ inRun.fld 0x04000010 0 0 = 0
    ∧ (armed none).fld 0x04000010 0 0 = 1 ∧ (armed none).fld 0x04000010 7 4 = 0 ∧ (armed none).sync.reloadAt = none
    ∧ (State.regsAre inRun [(0x04000010, 0x100)]).fld 0x04000010 9 8 = 1
    ∧ (armed (some 1000000)).sync.reloadAt = some 1000000 ∧ (armed (some 1000001)).frame < 1000001 :=
  ⟨spi_accepts (by decide +kernel), spi_accepts (by decide +kernel), by decide +kernel⟩

/-- A Sync of 44 bytes to port 0 with the EtherType of IEEE 1588. -/
def syncFrame : EthFrame :=
  ⟨true, 64, 0, 0x011B19000000, [], 0x88F7, none, List.replicate 44 0, List.replicate 60 0⟩

def ptpOn : State := State.regsAre inRun [(0x02000000, 7)]

theorem witness_NetTimeRows_1 :
    inRun.accepts .spi 0x02000024 5 ∧ inRun.fld 0x0200002C 0 0 = 0
    ∧ (State.regsAre inRun [(0x0200002C, 1)]).accepts .spi 0x02000024 0x80000000
    ∧ (State.regsAre inRun [(0x0200002C, 1)]).fld 0x0200002C 0 0 = 1
    ∧ (State.regsAre inRun [(0x02000004, 1)]).holdover = true ∧ inRun.holdover = false
    ∧ inRun.accepts .spi 0x0200002C 2 ∧ inRun.accepts .spi 0x0200002C 4 ∧ inRun.accepts .spi 0x02000018 1
    ∧ inRun.accepts .spi (aLaunch 63 4) 0xC000003C ∧ inRun.accepts .spi (aLaunch 0 4) 0x8000003C :=
  ⟨spi_accepts (by decide +kernel), by decide +kernel, spi_accepts (by decide +kernel), by decide +kernel,
    by decide +kernel, by decide +kernel, spi_accepts (by decide +kernel), spi_accepts (by decide +kernel),
    spi_accepts (by decide +kernel), spi_accepts (by decide +kernel), spi_accepts (by decide +kernel)⟩

theorem witness_NetTimeRows_2 :
    ptpOn.hostUp = true ∧ (ptpOn.hport 0).up = true ∧ syncFrame.fcsOk = true ∧ ptpOn.ptpTransport 0 syncFrame = some 0
    ∧ ptpOn.ptpOk 0 syncFrame 0 = true ∧ inRun.ptpOk 0 syncFrame 0 = false
    ∧ (({ ptpOn with ntu := { ptpOn.ntu with used := 64 } } : State).ntu.used = 64)
    ∧ (State.regsAre inRun [(0x0200003C, 1)]).lastSync + 1000000 * 1 ≤ inRun.frame
    ∧ inRun.lastSync ≤ inRun.ticks
    ∧ (inRun.frame < 1 + 1000000 * 1)
    ∧ (({ inRun with ntu := { inRun.ntu with launch := [(3, ⟨true, false⟩)] } } : State).launch 3).armed = true
    ∧ inRun.launchAhead 3 ≤ 0 ∧ 0 < (State.regsAre inRun [(aLaunch 3 0, 5000000)]).launchAhead 3
    ∧ ({ inRun with frame := 2 ^ 20 } : State).frame % 2 ^ 20 = 0 ∧ inRun.ntu.lastPair ≠ some (2 ^ 20)
    ∧ inRun.frame % 2 ^ 20 ≠ 0 ∧ inRun.ntuWorks = true ∧ State.reset.ntuWorks = false
    ∧ ptpOn.ptpMaster (1 :: List.replicate 43 0) = ptpOn := by decide +kernel

/-! ## Platform, bias and thermal management -/

/-- A Barista with a record, a STORE and a page waiting as named. -/
def barista (q : List Rec) (st : List Nat) (pg : Option Word) (streak : Nat) : State :=
  { inRun with bar := { inRun.bar with queue := q, stores := st, page := pg, streak := streak } }

def aRecord : Rec := ⟨0x22, 1, false, [], 999000, 3, 0, [], none⟩

theorem witness_PlatformRows :
    inRun.accepts .spi (aBias 63 0x30) 1 ∧ inRun.fld (aBias 63 0x30) 1 1 = 0
    ∧ (State.regsAre inRun [(aBias 0 0x30, 2)]).fld (aBias 0 0x30) 1 1 = 1
    ∧ (inMode .ready).accepts .spi 0x03000C00 0x82000000 ∧ inRun.accepts .spi 0x03000818 5
    ∧ (barista [aRecord] [] none 0).baristaRuns = true
    ∧ (barista [aRecord] [5] none 7).bar.streak < 8 ∧ recPerm aRecord.code = false
    ∧ 8 ≤ (barista [aRecord] [5] none 8).bar.streak
    ∧ ((barista [] [] (some 0x81000000) 0).bar.queue = [] ∧ (barista [] [] (some 0x81000000) 0).bar.page = some 0x81000000)
    ∧ bitsOf (0x81000000 : Word).toNat 27 24 = 1
    ∧ (State.regsAre inRun [(0x03000500 + 4, 0x2001)]).tokenPeriod (1 : Byte).toNat = some 1000000000
    ∧ rateCodes.contains (1 : Byte).toNat = true
    ∧ (sget 0 inRun.bar.tokenAt 1 + 1000000000 ≤ (inFrame inRun 1000000000).ticks)
    ∧ (inRun.ticks < sget 0 inRun.bar.tokenAt 1 + 1000000000) :=
  ⟨spi_accepts (by decide +kernel), by decide +kernel, by decide +kernel, spi_accepts (by decide +kernel),
    spi_accepts (by decide +kernel), by decide +kernel⟩

/-- Bias output 9 ticks in every frame; its unit and CTRL as named. -/
def ticking (x : Bias) (ctrl : Nat) : State :=
  State.regsAre { inRun with biases := [(9, x)] } [(aBias 9 8, 1), (aBias 9 0, ctrl), (aBias 9 4, 500), (aBias 9 0x10, 100)]

theorem witness_BiasAndThermal_1 :
    (inMode .boot).biasTicks 9 = false ∧ ((ticking { Bias.init with ticked := some 1000000 } 0).bias 9).ticked = some 1000000
    ∧ (ticking .init 0).biasTicks 9 = true ∧ (ticking .init 0).rangeLeaves 9 = false
    ∧ (ticking .init 1).rangeLeaves 9 = true
    ∧ (ticking { Bias.init with stage := 2, holdFrom := 950000 } 0).frame = 950000 + 50000
    ∧ ((ticking { Bias.init with stage := 2, holdFrom := 950001 } 0).frame < 950001 + 50000)
    ∧ (ticking { Bias.init with live := 400 } 0x10).fld (aBias 9 0) 4 4 = 1 := by decide +kernel

theorem witness_BiasAndThermal_2 :
    inRun.power.aon = true ∧ (1000000 % 125000 = 0 ∧ inRun.therm.sampled ≠ some inRun.frame)
    ∧ (1000001 % 125000 ≠ 0) ∧ (List.replicate 48 (1648 : Int)).length = 48
    ∧ (∀ k, k < 48 → inRun.sensorFailed k = false) ∧ (∀ y ∈ List.replicate 48 (2400 : Int), -880 ≤ y ∧ y ≤ 2400)
    ∧ (({ inRun with therm := { inRun.therm with entry := some 990000 } } : State).therm.entry = some 990000)
    ∧ (let s := State.regsAre { inRun with frame := 2 ^ 20 - 64, therm := { inRun.therm with entry := some 990000 } }
        [(0x108, 2 ^ 21), (0x03000000, 2)]
      s.isBoundary (s.frame + 2 ^ 20 + 64) = true ∧ 2 ≤ s.fld 0x03000000 1 0 ∧ s.therm.stopped = false
        ∧ s.ticks < 990000 + 10000000 ∧ s.therm.lastSkip = none ∧ s.therm.chosen = [] ∧ s.therm.skipped = [])
    ∧ (990000 + 10000000 ≤ (inFrame inRun 10990000).ticks ∧ inRun.therm.syncrSeen = false)
    ∧ (({ inRun with modes := { inRun.modes with shutdownAt := some 1000000 } } : State).modes.shutdownAt = some 1000000)
    ∧ inRun.frame < 1000001
    ∧ (let s : State := { inMode .ready with therm := { (inMode .ready).therm with above := [7, 7, 7], below := [0, 0, 0] } };
      s.fld 0x03000000 1 0 < 3 ∧ (s.takeSample (List.replicate 48 2000) 0).fld 0x03000000 1 0 = 3) := by decide +kernel

/-! ## Microengine -/

/-- A request of sequencer 9 for routine 128, and that routine under way. -/
def aReq (index : Nat) (issue : Nat) (host : Bool) : MeReq := ⟨host, 1, index, [7, 9], 1000100, [], issue, [6]⟩
def aRoutine (index : Nat) (v : Option Vendor) : Routine :=
  ⟨aReq index 999990 false, .init, 12288, 12288, .init, none, 1000000, [], [], [], false, false, [], [], v, false⟩
def engine (m : Me) : State := { withSeq going with mes := [(1, m)] }

/-- Word with NEXT 12,300, WAIT 3, and ADD of W6 and W7 into W5 (R400). -/
def addWord : BitVec 192 := BitVec.ofNat 192 (12300 * 2 ^ 178 + 2 * 2 ^ 92 + 5 * 2 ^ 87 + 6 * 2 ^ 82 + 7 * 2 ^ 77 + 3 * 2 ^ 15)

theorem witness_MicroRows_1 :
    ((engine { Me.init with run := some (aRoutine 128 none) }).mode = .run
      ∧ (engine { Me.init with run := some (aRoutine 128 none) }).contained 1 = false
      ∧ ((engine { Me.init with run := some (aRoutine 128 none) }).me 1).run = some (aRoutine 128 none)
      ∧ ((engine { Me.init with run := some (aRoutine 128 none) }).me 1).hostReq = none)
    ∧ ((aRoutine 128 none).nextWord ≤ inRun.frame ∧ (aRoutine 128 none).events.length ≤ 64
      ∧ (aRoutine 128 none).updates.length ≤ 16 ∧ (aRoutine 128 none).loads = [] ∧ (aRoutine 128 none).vendor = none)
    ∧ (bitOf addWord.toNat 156 = false ∧ bitOf addWord.toNat 126 = false ∧ bitsOf addWord.toNat 76 75 = 0
      ∧ bitsOf addWord.toNat 52 51 = 0 ∧ bitsOf addWord.toNat 36 35 = 0 ∧ bitsOf addWord.toNat 96 92 = 2
      ∧ bitOf addWord.toNat 157 = false ∧ bitOf addWord.toNat 1 = false ∧ 12288 ≤ bitsOf addWord.toNat 191 178
      ∧ branchHolds (bitsOf addWord.toNat 177 172) MeRegs.init = false)
    ∧ (bitOf (2 : BitVec 192).toNat 1 = true ∧ bitsOf (2 : BitVec 192).toNat 96 92 = 0)
    ∧ ((aRoutine 128 none).req.host = false ∧ (aRoutine 128 none).syncrs = [])
    ∧ ((aRoutine 2 (some ⟨0, 0, 0, 0, 0, 0, 0, 0⟩)).req.index = 2
      ∧ (aRoutine 2 (some ⟨0, 0, 0, 0, 0, 0, 0, 0⟩)).vendor.isSome = true) := by decide +kernel

theorem witness_MicroRows_2 :
    ((engine { Me.init with reqs := [aReq 128 999998 false] }).me 1).run = none
    ∧ ((engine { Me.init with reqs := [aReq 128 999998 false] }).me 1).reqs = [aReq 128 999998 false]
    ∧ ((aReq 128 999998 false).issue + 2 ≤ inRun.frame) ∧ (inRun.frame < (aReq 128 999999 false).issue + 2)
    ∧ (State.regsAre inRun [(0x90080000 + 4 * 128, 0x80003000)]).entryValid 128 = true ∧ inRun.entryValid 255 = false
    ∧ inRun.entryValid 3 = false ∧ (engine { Me.init with reqs := [aReq 128 999998 false] }).mode = .run
    ∧ ((engine { Me.init with reqs := [aReq 128 999998 false] }).me 1).freeAt ≤ inRun.frame ∧ ((engine .init).me 1).again = none
    ∧ ((engine { Me.init with hostReq := some (aReq 128 999998 true) }).me 1).hostReq = some (aReq 128 999998 true)
    ∧ ((engine { Me.init with again := some (aRoutine 128 none, 1000000) }).me 1).again = some (aRoutine 128 none, 1000000)
    ∧ inRun.frame < 1000001 := by decide +kernel

/-! ## Playback and acquisition -/

/-- A segment on drive voice 6 of cluster 1: 8 granules of a memory segment, or as named. -/
def segment (cls len : Nat) (stream : Bool) : Entry := ⟨0, true, stream, cls, 1, 0, false, false, true, len, 0, 4097, 140⟩
def playing (e : Entry) (t next : Nat) : Play := ⟨9, e, t, 3, 32768, none, next, 0, none, false, false, [], 0, none⟩
def playState (p : Play) : State := { entrySet inRun with plays := [(tkey 1 6, p)] }

theorem witness_PlaybackRows :
    (playState (playing (segment 0 8 false) 999980 5)).playOn (tkey 1 6) = some (playing (segment 0 8 false) 999980 5)
    ∧ (5 < (segment 0 8 false).len ∧ 999980 + 4 * 5 ≤ inRun.frame) ∧ (inRun.frame < 999981 + 4 * 5)
    ∧ (segment 2 8 false).cls = 2 ∧ (segment 0 8 true).stream = true ∧ (playing (segment 0 8 true) 999980 5).lost = false
    ∧ (∃ i, i < granBytes 0 ∧ sget none (inRun.cl 1).ring (0 + i) = none)
    ∧ ((List.range (granBytes 0)).all fun i => sget none ((List.range 64).map fun k => (k, some (7 : Byte))) i == some 7) = true
    ∧ (999972 + 4 * 8 ≤ inRun.frame + 4 ∧ (inRun.frame + 4 < 999973 + 4 * 8))
    ∧ (entrySet inRun).entryPlays ((entrySet inRun).entry 4097) 1 6 false = true
    ∧ (inRun.entryPlays (inRun.entry 4097) 1 6 false = false) ∧ (999968 + 4 * 8 ≤ inRun.frame)
    ∧ (inRun.cl 1).stopAt = none
    ∧ (({ inRun with clusters := [(1, { Cluster.init with stopAt := some 1000000 })] } : State).cl 1).stopAt = some 1000000 := by
  refine ⟨by decide +kernel, by decide +kernel, by decide +kernel, by decide +kernel, by decide +kernel, by decide +kernel,
    ⟨0, by decide +kernel⟩, by decide +kernel⟩

/-- Slot 70 with a window, codes and hand-ins. -/
def slot70 (x : Slot) : State := { inRun with slots := [(70, x)] }
def window (codeAtPlus : Nat) (res : Option (Int × Int × Bool)) : Win :=
  ⟨1000000 - codeAtPlus, 1000000 - codeAtPlus, 100, true, true, false, 4, 0, 0, 10, false, false, false, none, res⟩

theorem witness_AcquisitionRows_1 :
    ((slot70 { Slot.init with wins := [window 163 none] }).slot 70).wins = [window 163 none]
    ∧ (slot70 Slot.init |>.slot 70).clears = [] ∧ ({ window 163 none with mode := true } : Win).mode = true
    ∧ (slot70 Slot.init).winTicks 70 (window 163 none) ≠ []
    ∧ (slot70 Slot.init).winTicks 70 { window 163 none with len := 0 } = []
    ∧ ((window 163 none).dumpAt ≤ inRun.ticks ∧ inRun.ticks < (window 163 none).codeAt)
    ∧ inRun.ticks < (window 162 none).dumpAt
    ∧ ((window 200 (some (5, 6, false))).res = some (5, 6, false) ∧ (window 200 (some (5, 6, false))).codeAt ≤ inRun.ticks)
    ∧ inRun.acquireBy 70 1000004 = false
    ∧ ((slot70 { Slot.init with codes := [⟨1000000, 1⟩] }).slot 70).codes = [⟨1000000, 1⟩] ∧ inRun.frame < 1000001
    ∧ ((slot70 { Slot.init with hands := [⟨1000000, 1, 2, 1, 70, 0, 9⟩] }).slot 70).hands = [⟨1000000, 1, 2, 1, 70, 0, 9⟩]
    ∧ 16 ≤ ((({ inRun with rdsps := [(1, { Rdsp.init with queue := List.replicate 16 ⟨0, 1, 2, 1, 70, 0, 9⟩ })] } : State).rd 1).queue.length)
    ∧ (slot70 { Slot.init with clears := [999361] }).chainSettles 70 = true
    ∧ (slot70 { Slot.init with clears := [999360] }).chainSettles 70 = false
    ∧ bitOf (inRun.regN (0x70000100 + 4 * (70 / 32))) (70 % 32) = false := by decide +kernel

theorem witness_AcquisitionRows_2 :
    (sget Watch.init inRun.cap.watch 3).lastRec = none
    ∧ (({ Watch.init with changed := 4, lastRec := some 999488 } : Watch).lastRec = some 999488 ∧ 999488 + 512 ≤ inRun.frame
      ∧ inRun.frame < 999489 + 512)
    ∧ (State.regsAre { inRun with frame := 1000032 } [(aAcq 5 0x10, 1000)]).blockEnds 5 = true
    ∧ (State.regsAre inRun [(aAcq 5 0x10, 1000)]).blockEnds 5 = false
    ∧ (({ inRun with inputs := [(5, { Input.init with lastRec := some 998976, owed := some 999000 })] } : State).input 5).owed
        = some 999000
    ∧ (998976 + 1024 ≤ inRun.frame ∧ inRun.frame < 998977 + 1024) ∧ inRun.stagedBytes + 16 ≤ 65536 := by decide +kernel

/-! ## RDSP -/

/-- Core 1 with its program running. -/
def core (r : Rdsp) : State := { inRun with rdsps := [(1, r)] }
def issuing : Rdsp := { Rdsp.init with state := 1, pc := 40, x := [(1, 7), (2, 0xFFFFFFFF), (3, 0x80000005)] }

theorem plain_of {s : State} {c : Nat} (h : s.rdReady c = true ∧ (s.rd c).reps = [] ∧ (s.rd c).branch = none) :
    s.issuesPlain c := h

theorem witness_RdspArithmetic : (core issuing).issuesPlain 1 ∧ ((core issuing).rd 1).delayed = [] :=
  ⟨plain_of (by decide +kernel), by decide +kernel⟩

theorem witness_RdspMemoryAndPorts :
    (core issuing).issuesPlain 1 ∧ ((core issuing).rd 1).queue = []
    ∧ (core { issuing with queue := [⟨0, 1, 2, 1, 6, 0, 9⟩] }).issuesPlain 1
    ∧ (core issuing).streaming = true ∧ (core issuing).stagedBytes + 16 ≤ 65536 ∧ ((core issuing).slot 64).lastRec = none
    ∧ (((core issuing).rd 1).getX 15).toNat ≤ (core issuing).frame % 2 ^ 32
    ∧ (bitsOf (0x40050003 : Word).toNat 31 30 = 1 ∧ bitsOf (0x40050003 : Word).toNat 29 16 = 5 ∧ 2 ^ 3 < 2 * 5 ∧ 5 ≤ 2 ^ 3)
    ∧ bitsOf (0xC0000000 : Word).toNat 31 30 = 3 ∧ sbitsOf (0x40050003 : Word).toNat 15 0 ≠ 0
    ∧ sbitsOf (0x40050000 : Word).toNat 15 0 = 0 :=
  ⟨plain_of (by decide +kernel), by decide +kernel, plain_of (by decide +kernel), by decide +kernel⟩

theorem witness_RdspControl :
    (core { issuing with reps := [⟨38, 40, 2⟩] }).rdReady 1 = true ∧ (core { issuing with reps := [⟨38, 40, 1⟩] }).rdReady 1 = true
    ∧ (core { issuing with branch := some (2, 9) }).rdReady 1 = true ∧ (core { issuing with branch := some (1, 9) }).rdReady 1 = true
    ∧ (core issuing).issuesPlain 1 ∧ (core { issuing with calls := List.replicate 8 3 }).issuesPlain 1
    ∧ (core { issuing with calls := [3] }).issuesPlain 1
    ∧ (core { issuing with reps := [⟨38, 42, 2⟩] }).rdReady 1 = true
    ∧ (core { issuing with reps := List.replicate 3 ⟨38, 60, 2⟩ }).rdReady 1 = true
    ∧ ((core { issuing with sr := 0x200, mboxReq := true }).irqDue 1 = true ∧ inRun.irqDue 1 = false
      ∧ (core { issuing with sr := 0x200, mboxReq := true }).inLibrary 1 = false) :=
  ⟨by decide +kernel, by decide +kernel, by decide +kernel, by decide +kernel, plain_of (by decide +kernel),
    plain_of (by decide +kernel), plain_of (by decide +kernel), by decide +kernel⟩

/-! ## Rounds, cells and trackers -/

/-- Check 3 of bank 0 is enabled on D-bit 140; the graph is enabled. -/
def graphOn (s : State) : State :=
  State.regsAre { s with frame := 1001000, ticks := 1001000, mem := [(bankAt 0 12, 140), (bankAt 0 12 + 1, 0x80)] } [(0x108, 1000), (0x60000000, 0x11)]

/-- Cell 9 has been enabled on D-bit 140, which is valid. -/
def cellOn : State :=
  let s := State.regsAre { inRun with dbits := [(140, ⟨true, true, false, 0, false⟩)] }
    [(0x60010000 + 0x40 * 9, 0x80000100), (0x60010004 + 0x40 * 9, 140)]
  { s with was := s.regs }

theorem witness_RoundsCellsAndTrackers_1 :
    inRun.isBoundary inRun.frame = false ∧ (rounds inRun).isBoundary 1001000 = true
    ∧ (graphOn inRun).isBoundary (graphOn inRun).frame = true ∧ bitOf ((graphOn inRun).regN 0x60000000) 0 = true
    ∧ bitOf ((graphOn inRun).memWord (bankAt (bitsOf ((graphOn inRun).regN 0x60000000) 3 3) 12)) 15 = true
    ∧ (let s : State := { graphOn inRun with dbits := [(140, ⟨true, true, false, 1000, true⟩)] }
      (s.dbit 140).valid = true ∧ (s.dbit 140).stale = false ∧ (s.dbit 140).inRound = true ∧ s.clearedNow 140 = false
        ∧ 0 < s.roundAt s.frame ∧ (s.dbit 140).tag = BitVec.ofNat 32 (s.roundAt s.frame - 1))
    ∧ bitOf (inRun.cellCfg 9) 31 = false
    ∧ (let s : State := cellOn;
      bitOf (s.cellCfg 9) 31 = true ∧ bitsOf (s.cellCfg 9) 12 8 = 1 ∧ s.cellInput 9 0 = (140, false)
        ∧ s.inputValid 9 140 = true) := by decide +kernel

/-- Cluster 1 runs item 0 of tracker `k` with batches of 10 on qubit 70 and slot 70, in the background. -/
def tracking (k : Nat) (x : Trk) : State :=
  State.regsAre { inRun with
      trks := [(1, x)], rdsps := [(1, { Rdsp.init with state := 1 })], mem := [((aDir 4097 0) + 2, 0x10), ((aDir 4097 0) + 3, 0x0A), (aDir 4097 1, 4)] }
    [(aCl 1 0x2000, 0xF0F), (aCl 1 0x3000, 0x80000000 + k * 2 ^ 28 + 70 + 70 * 2 ^ 16), (aCl 1 0x3004, 0x10011001),
     (aCl 1 0x3008, 0x100064), (aCl 1 0x300C, 0x10000A), (aCl 1 0x3010, 0x640020), (aCl 1 0x3014, 10), (aRd 1 0, 2)]
def shot (stretch at_ : Nat) : Shot := ⟨0, 0, true, stretch, 40, 16, at_, none, none, none⟩

theorem witness_RoundsCellsAndTrackers_2 :
    (tracking 0 .init).itemRuns 1 0 0 = true ∧ inRun.itemRuns 1 0 0 = false ∧ (tracking 3 .init).itemRuns 1 3 0 = true
    ∧ (tracking 0 .init).thermLevel < 2 ∧ (tracking 0 .init).asksNow 1 = true
    ∧ ((tracking 0 .init).batch 1 0 0).shots < 2 * (tracking 0 .init).itemM 1 0 0
    ∧ (tracking 0 .init).itemOk 1 0 0 = true
    ∧ (tracking 0 .init).shotWindow 1 0 ((tracking 0 .init).shotTargets 1 0) = some none
    ∧ (tracking 0 .init).quantumFree ((tracking 0 .init).shotTargets 1 0) 16 none = true
    ∧ (tracking 0 .init).shotFree ((tracking 0 .init).shotTargets 1 0) ((tracking 0 .init).shotLen 1 0) = true := by
  decide +kernel

theorem witness_RoundsCellsAndTrackers_3 :
    ((tracking 0 { Trk.init with shots := [shot 1 1000001] }).trk 1).shots = [shot 1 1000001] ∧ inRun.frame < (shot 1 1000001).at_
    ∧ (shot 5 1000000).stretch = 5
    ∧ (tracking 0 { Trk.init with shots := [shot 1 1000000] }).quantumFree ((tracking 0 .init).shotTargets 1 0) 16 none = true
    ∧ (let s : State := { tracking 0 { Trk.init with shots := [shot 1 1000000] } with
          tqueues := [(tkey 1 6, ⟨[], [ev 1000010 999900 (.play 4097 3)]⟩)] }
      s.quantumFree (s.shotTargets 1 0) 16 none = false)
    ∧ (let s := tracking 3 { Trk.init with batches := [(64 * 3, { Batch.init with blocks := 10 })] }
      0 < s.itemM 1 3 0 ∧ s.itemM 1 3 0 ≤ (s.batch 1 3 0).blocks)
    ∧ (tracking 3 .init).itemM 1 3 0 = 10
    ∧ (let s := tracking 0 { Trk.init with batches := [(0, { Batch.init with counted := 20 })] }
      2 * s.itemM 1 0 0 ≤ (s.batch 1 0 0).counted) := by decide +kernel

/-! ## Whole-machine statements -/

theorem witness_StepKeepsSound :
    (entrySet inRun).sound ∧ (∃ t, step { entrySet inRun with pending := [.spiStatus] } = .next t)
    ∧ ∃ t, step (entrySet inRun) = .next t := by
  refine ⟨by unfold State.sound; decide +kernel, ⟨_, rfl⟩, ⟨_, rfl⟩⟩

theorem witness_TarfigerDecodeEncode :
    encodeSeq (.li 9 3 5) = some 0x2018000000000005 ∧ decodeSeq 9 0x2018000000000005 ≠ .undefinedOpcode 9 := by decide +kernel

theorem witness_RdspDecodeEncode :
    encodeRdsp (.rdspParallel 3 ⟨1, 2, 3, 1, true, 4, 1, false, 0, 0⟩ .clean .clean) = some 0x999C4000 ∧
    encodeRdsp (.st 3 ⟨2, true, 0, 2, 0, 0x123⟩) = some 0x42510123
    ∧ decodeRdsp 3 0x42510123 = some (.st 3 ⟨2, true, 0, 2, 0, 0x123⟩) := by decide +kernel

/-! ## RDSP -/

/-- R332: 0xFFFFFFFF + 7 is 6; R330: the next word issues in the next frame. -/
theorem test_rdsp_add :
    let t := out (.rdspAdd 1 ⟨4, 2, false, 1, 0⟩) (core issuing)
    (t.rd 1).getX 4 = 6 ∧ (t.rd 1).pc = 41 ∧ (t.rd 1).nextIssue = 1000001 := by decide +kernel
/-- R332: an immediate is sign-extended: 7 − (−1) = 8. -/
theorem test_rdsp_sub_imm :
    ((out (.rdspSub 1 ⟨4, 1, true, 0, 0xFFFF⟩) (core issuing)).rd 1).getX 4 = 8 := by decide +kernel
/-- R327: MOP 1 adds both products: (−2)·3 + 4·5 = 14. -/
theorem test_rdsp_mac :
    let r := { issuing with x := [(0, 0x0004FFFE), (8, 0x00050003)] }
    ((out (.rdspParallel 1 ⟨1, 0, 0, 0, false, 0, 0, false, 0, 0⟩ .clean .clean) (core r)).rd 1).getA 0 = 14 := by decide +kernel
/-- R327: the conjugate MOP 3: (−2)·3 − 4·5 = −26. -/
theorem test_rdsp_mac_conj :
    let r := { issuing with x := [(0, 0x0004FFFE), (8, 0x00050003)] }
    (((out (.rdspParallel 1 ⟨3, 0, 0, 0, false, 0, 0, false, 0, 0⟩ .clean .clean) (core r)).rd 1).getA 0).toInt = -26 := by decide +kernel
/-- R318: a circular pointer wraps: base 8, length 5, at 12 with step 3 it goes to 10. -/
theorem test_post_modify : postModify 12 0x40050003 = 10 := by decide +kernel
/-- R334: a load reaches its register one slot later. -/
theorem test_rdsp_load_slot :
    let s := out (.lio 1 ⟨5, 0⟩) (core issuing)
    let u := out (.rdspNop 1) { s with frame := 1000001 }
    (s.rd 1).getX 5 = 0 ∧ ((out (.rdspNop 1) { u with frame := 1000002 }).rd 1).getX 5 = 1000000 := by decide +kernel
/-- R335: BR takes two delay slots. -/
theorem test_rdsp_branch :
    let a := out (.br 1 ⟨0, false, 0, 100⟩) (core issuing)
    let b := out (.rdspNop 1) { a with frame := 1000001 }
    let c := out (.rdspNop 1) { b with frame := 1000002 }
    (a.rd 1).pc = 41 ∧ (b.rd 1).pc = 42 ∧ (c.rd 1).pc = 100 := by decide +kernel
/-- R325: DST reaches its D-bit 10 frames on. -/
theorem test_rdsp_dst :
    (out (.dst 1 ⟨1, 0, 5⟩) (core issuing)).dwrites = [⟨1000010, 2048 + 64 + 5, true, false⟩] := by decide +kernel

/-! ## Single steps -/

/-- The front command runs on the queue's rest. -/
theorem test_step_front :
    step { inRun with pending := [.notify 9 5, .nop 9] } = exec (.notify 9 5) { inRun with pending := [.nop 9] } := rfl
/-- R19: the frame counter takes SYNC.LOAD. -/
theorem test_epoch_reload :
    let s := State.regsAre (armed (some 1000000)) [(0x04000018, 0x200), (0x0400001C, 1)]
    (out .epochReload s).frame = 0x100000200 ∧ (out .epochReload s).fld 0x04000010 0 0 = 0 := by decide +kernel
/-- R358: a check that differs from its last value writes a detection event of 1 four frames on. -/
theorem test_detection_event :
    let s : State := { graphOn inRun with
      dbits := [(140, ⟨true, true, false, 1000, true⟩)], perc := { inRun.perc with prev := [(3, some false)], syn := 0x11 } }
    (s.closeCheck 1001 3).dwrites = [⟨1001004, 6144 + 3, true, false⟩] := by decide +kernel
/-- R350: majority of two true inputs and one false. -/
theorem test_majority : cellFunc 3 [true, false, true] = true ∧ cellFunc 3 [true, false] = false := by decide +kernel
/-- R503: eight samples at the WARN threshold of 98 °C. -/
theorem test_therm_level : thermLevel' [8, 0, 0] [0, 0, 0] 0 = 1 ∧ thermLevel' [7, 0, 0] [0, 0, 0] 0 = 0 := by decide +kernel
/-- R419: HOST_CALL leaves its request for the frame of the write. -/
theorem test_host_call :
    let t := out (.hostCall .spi 3 0x80000080) inRun
    ((t.me 3).hostReq.map (fun r => (r.index, r.issue))) = some (128, 1000000) := by decide +kernel
/-- R485: a bias output under slew moves by STEP: from 0 toward 500 in steps of 100. -/
theorem test_bias_slew :
    ((out (.biasTick 9) (ticking .init 0x10)).bias 9).live.toInt = 100 := by decide +kernel
/-- R485, R489: in range 2 a step from 0 to 131,072 is a major transition, at the ball 232 frames after its tick. -/
theorem test_bias_ball :
    let b := (out (.biasTick 9) (State.regsAre (ticking { Bias.init with range := 2 } 2) [(aBias 9 4, 131072)])).bias 9
    b.live.toNat = 131072 ∧ recCode (b.shown 1000231) = 0 ∧ (recCode (b.shown 1000232)).toNat = 131072 := by decide +kernel
/-- R231: at the first sample of a frame a skew grown from 1 to 3 repeats the sample before it twice; one shrunk from 3 to 1
leaves two out. -/
theorem test_skew :
    let before : List Int := (List.range 16).map (fun (i : Nat) => (i : Int))
    let now : List Int := (List.range 16).map (fun (i : Nat) => (i : Int) + 16)
    (skewSamples before now 1 3).take 4 = [15, 15, 15, 16] ∧ (skewSamples before now 3 1).take 2 = [13, 16]
    ∧ (skewInstant [7, 8] [9, 10] 3).take 4 = [8, 8, 8, 9] := by decide +kernel
/-- R299: 2^30 + 8 with SHIFT 4 rounds to the even 2^26 and is limited to 2^23 − 1; −24 goes to −2 (−1.5 is a tie). -/
theorem test_report :
    report { window 163 none with shift := 4 } ⟨2 ^ 30 + 8, -24⟩ = (8388607, -2, true) := by decide +kernel
/-- R450: a flit with a wrong CRC is counted. -/
theorem test_flit_crc :
    (out (.flitReceive 2 (BitVec.ofNat 64 (updateFlit + 1)) 999990) (glUp .init)).regN (aGl 2 0x10) = 1 := by decide +kernel
/-- R521: STATUS shows a posted word as busy. -/
theorem test_spi_status : (out .spiStatus (postedAre [(8, 1, false)])).spi.status = 1 := by decide +kernel
/-- R391: 63 samples after a trigger its input gives no other. -/
theorem test_dead_time :
    let s : State := { snapIn 2 ⟨0, 0, 0, 0, 0, false⟩ with cap := { Cap.init with edges := [(3, some 15999942)] } }
    (out (.triggerEdge 3 5) s).fld (aSnap 5 0xC) 1 0 = 2 ∧ (out (.triggerEdge 3 6) s).fld (aSnap 5 0xC) 1 0 = 3 := by
  decide +kernel
/-- R528: a token comes back after its period. -/
theorem test_token :
    let s : State := { State.regsAre inRun [(0x03000504, 0x2001)] with
      ticks := 1000000000, bar := { inRun.bar with tokens := [(1, 4)] } }
    sget 32 (out (.tokenRefill 1) s).bar.tokens 1 = 5 := by decide +kernel
/-- R48, R54, R504: the status pins in SAFE with a WARN level and a rail out of its window. -/
theorem test_pins :
    let s := State.regsAre { inMode .safe with power := ⟨true, false, true, true, true, true⟩ } [(0x03000000, 1)]
    s.faultN = .low ∧ s.alertN = .low ∧ s.pwrgood = .low ∧ inRun.alertN = .released ∧ inRun.faultN = .released := by
  decide +kernel
/-- R464: GEN raises SYNC_OUT at the first REFCLK edge at least 8 frames on, for one period. -/
theorem test_sync_out :
    let t := out (.syncGen .spi 0x202) inRun
    ({ t with frame := 1000007 }.syncOut = .low) ∧ ({ t with frame := 1000008 }.syncOut = .high)
      ∧ ({ t with frame := 1000011 }.syncOut = .high) ∧ ({ t with frame := 1000012 }.syncOut = .low) := by decide +kernel

/-! ## Further clauses -/

/-- A PTP frame starts within the 50 bytes of a datapath word (R476). -/
theorem test_wf_position : (Instr.ptpReceive 0 syncFrame 49).wf = true ∧ (Instr.ptpReceive 0 syncFrame 50).wf = false := by
  decide +kernel

theorem witness_TarfigerTimedStalls_2 :
    (owning (withSeq { going with stamps := [(1000100, 2)] })).issues 9 []
    ∧ (let s := owning (withSeq { going with stamps := [(1000100, 2)] });
      (s.seq 9).tl.toNat ≤ s.frame + 2 ^ 20 ∧ (s.tq (tkey 1 6)).size < 64 ∧ s.owns 9 6 = true
        ∧ (EvKind.phrst 3 true).drives 6 = true ∧ 2 ≤ (s.seq 9).stampsAt (s.seq 9).tl.toNat)
    ∧ (let s := withSeq going; ¬ (64 ≤ (s.tq (tkey 1 6)).size) ∧ s.owns 9 6 = false) :=
  ⟨issues_of _ (by decide +kernel), by decide +kernel⟩

theorem witness_LoadInterlock_2 :
    ({ withSeq going with mode := .ready } : State).mode ≠ .run
    ∧ (faultLatched.contained 3 = true)
    ∧ ((withSeq { going with state := 0 }).seq 9).state = 0 ∧ ((withSeq { going with state := 4 }).seq 9).state = 4
    ∧ ((withSeq { going with state := 6 }).seq 9).state = 6
    ∧ (let x := (withSeq { going with state := 4, wait := .dbit 140 false 1000000 none }).seq 9;
      x.wait ≠ .none ∧ x.wait ≠ .fence) := by decide +kernel

/-- One event due on drive voice 6, on a marker and on an acquisition slot of cluster 1. -/
def due6 (k : EvKind) : State := queue6 [] [ev 1000000 999900 k]
def dueOn (tgt : Nat) (k : EvKind) : State := { inRun with tqueues := [(tkey 1 tgt, ⟨[], [ev 1000000 999900 k]⟩)] }

/-- A CPLAY whose alternative 0 is null and chosen, and one with both null that its D-bit has not decided. -/
def choiceNull (v : Option Bool) (n1 : Bool) : EvKind := .cplay ⟨140, false, false, 0, 0, true, n1, 1, 2, 0, 0, v⟩

theorem witness_SelectAndRelease_2 :
    (∀ k ∈ ([.vz 3 7, .phrst 3 false, .phrst 3 true, .setf 3 0x123456789, choiceNull (some false) false,
        .probe 4097 3 true 5, choice (some true)] : List EvKind),
      ((due6 k).tq (tkey 1 6)).held = [ev 1000000 999900 k] ∧ (ev 1000000 999900 k).t ≤ (due6 k).frame)
    ∧ ((dueOn 224 (.mark 5)).tq (tkey 1 224)).held = [ev 1000000 999900 (.mark 5)]
    ∧ ((dueOn 160 (.acquire 100 true true)).tq (tkey 1 160)).held = [ev 1000000 999900 (.acquire 100 true true)]
    ∧ ((dueOn 64 (.flux 4097 0x4000)).tq (tkey 1 64)).held = [ev 1000000 999900 (.flux 4097 0x4000)]
    ∧ ((queue6 [] [ev 1000004 999900 (choiceNull none true)]).tq (tkey 1 6)).held = [ev 1000004 999900 (choiceNull none true)]
    ∧ (queue6 [] []).dbitReady 140 false = false
    ∧ ((queue6 [] [ev 999999 999900 (.vz 3 7), ev 1000000 999901 (.phrst 3 false)]).tq (tkey 1 6)).held
        = [ev 999999 999900 (.vz 3 7), ev 1000000 999901 (.phrst 3 false)]
    ∧ ((queue6 [] [ev 1000000 999900 (.phrst 3 false), ev 1000000 999901 (.vz 3 7)]).tq (tkey 1 6)).held
        = [ev 1000000 999900 (.phrst 3 false), ev 1000000 999901 (.vz 3 7)] := by decide +kernel

/-- R158, R189: PHRST ALL resets every slot, and a play-class event due in the frame comes after it. -/
theorem test_phrst_all :
    let s := State.regsAre (queue6 [] [ev 1000000 999900 (.play 4097 3), ev 1000000 999901 (.phrst 0 true)])
      [(aVoiceSlot 1 6 31 + 8, 77)]
    (out (.eventRelease 1 6 .clean) s).reg (aVoiceSlot 1 6 31 + 0x18) = 77 := by decide +kernel

/-- The stop frame of a STOP, with events before and after it and a tracker shot with quanta to come. -/
def stopping (moved : Option Nat) : State :=
  { inRun with
    modes := { inRun.modes with stops := [⟨1000000, takenOf 8 0 []⟩], moved := moved },
    host := { inRun.host with queues := [(0, { HostQ.init with active := [takenOf 8 0 []] })] },
    trks := [(2, { Trk.init with shots := [⟨0, 3, true, 1, 16, 0, 1000004, none, none, none⟩] })],
    commits := [⟨1000001, [], none, 9, 1⟩, ⟨1000001, [], some (takenOf 5 0 []), 0, 2⟩],
    tqueues := [(tkey 1 6, ⟨[vzAt 999999 1, vzAt 1000000 2], [vzAt 999990 3, vzAt 1000001 4]⟩)] }

theorem witness_RunEnds_2 :
    (stopping none).modes.stops = [⟨1000000, takenOf 8 0 []⟩] ∧ (stopping none).mode = .run
    ∧ (stopping none).modes.moved ≠ some (stopping none).frame ∧ (stopping none).mes = []
    ∧ (vzAt 999990 3 ∈ ((stopping none).tq (tkey 1 6)).held ∧ (vzAt 999990 3).tentative = false ∧ 999990 < (stopping none).frame)
    ∧ (vzAt 999999 1 ∈ ((stopping none).tq (tkey 1 6)).flight ∧ vzAt 1000000 2 ∈ ((stopping none).tq (tkey 1 6)).flight)
    ∧ (∃ x ∈ ((stopping none).trk 2).shots, x.stretch ≠ 5) ∧ ((stopping none).trk 1).shots = []
    ∧ (stopping (some 1000000)).modes.moved = some (stopping (some 1000000)).frame
    ∧ ({ stopping none with mode := .ready } : State).mode ≠ .run := by decide +kernel

/-- R45, R98: at the stop frame READY comes, the earlier events stay and the later ones are gone. -/
theorem test_stop :
    let t := out .stopFrame (stopping none)
    t.mode = .ready ∧ (t.tq (tkey 1 6)).held.map Ev.t = [999990] ∧ (t.tq (tkey 1 6)).flight.map Ev.t = [999999]
      ∧ t.commits.map PendingCommit.order = [2] ∧ t.regN (aCl 2 0x200C) = 1 := by decide +kernel

theorem witness_SleepAndWake_2 :
    (let s : State := { State.regsAre (inMode .sleep) [(0x4C, 1), (0x50, 1000000)] with
        modes := { State.reset.modes with wakeAt := some 1350000 } };
      s.fld 0x4C 0 0 = 1 ∧ s.reg64 0x50 ≤ s.frame ∧ s.modes.wakeAt = some (s.frame + 350000))
    ∧ (let s : State := { State.regsAre (inMode .sleep) [(0x4C, 1), (0x50, 1000000)] with
        modes := { State.reset.modes with wakeAt := some 1000001 } };
      s.modes.wakeAt = some 1000001 ∧ 1000001 ≠ s.frame + 350000) := by decide +kernel

theorem witness_RunBegins_2 :
    (let s : State := { inMode .ready with modes := { State.reset.modes with shutdownAt := some 1000100 } };
      s.modes.shutdownAt ≠ none)
    ∧ (asked (inMode .sleep) 7 0 (leBytes 8 1000064)).begins 7 (cmdOf 0 (leBytes 8 1000064)) (takenOf 7 0 (leBytes 8 1000064)) := by
  refine ⟨by decide +kernel, by unfold State.begins; decide +kernel⟩

theorem witness_BootBegins_2 :
    hourFrames ≤ ({ inRun with bar := { inRun.bar with railFrames := hourFrames } } : State).bar.railFrames
    ∧ (inMode .reset).mode = .reset ∧ (inRun.mode ≠ .reset ∧ inRun.bar.railFrames < hourFrames) := by decide +kernel

theorem witness_ResetEntry_2 :
    ({ inRun with bar := { inRun.bar with nvReset := [(0x01000000, 0x21)] } } : State).bar.nvReset = [(0x01000000, 0x21)]
    ∧ keptAtReset 0x01000000 = false := by decide +kernel

theorem witness_RegisterWrites_2 :
    ((postedAre [(8, 1, false)]).spi.posted.length < 64 ∧ (postedAre [(8, 1, false)]).spi.posted ≠ [])
    ∧ (({ inRun with phase := 5 } : State).phase ≤ 5 ∧ ({ inRun with phase := 5 } : State).spi.posted = [])
    ∧ (5 < inRun.phase ∧ inRun.spi.kept = 0 ∧ inRun.spiBusy = false) := by decide +kernel

theorem witness_SpiRows_2 :
    (postedAre ((8, 1, false) :: List.replicate 63 (8, 2, false))).spi.posted = (8, 1, false) :: List.replicate 63 (8, 2, false)
    ∧ (postedAre ((8, 1, false) :: List.replicate 63 (8, 2, false))).spiStoring = false
    ∧ (postedAre (List.replicate 64 (0x03000C00, 1, false))).spiHardware = false
    ∧ 64 ≤ (postedAre (List.replicate 64 (0x03000C00, 1, false))).spi.posted.length
    ∧ ({ inRun with phase := 5 } : State).phase ≤ 5 ∧ 5 < inRun.phase
    ∧ (({ inRun with spi := { inRun.spi with read := some (8, 1) } } : State).spiBusy = false
      ∧ ({ inRun with spi := { inRun.spi with read := some (8, 1) } } : State).spi.posted = [])
    ∧ (10 : Word).toNat % 4 ≠ 0 := by decide +kernel

/-- R522: over a full buffer whose oldest word the Barista serves, a further word is discarded. -/
theorem test_spi_full :
    let s := postedAre (List.replicate 64 (0x03000C00, 1, false))
    let t := out (.spiWrite 8 [5]) s
    t.spi.posted.length = 64 ∧ t.spi.refused = true ∧ t.spi.code = 9 := by decide +kernel

/-- TRACE stream 0 is open on slot 70's chain, decimated by 8. -/
def tracing : State := State.regsAre inRun [(aTrace 0 0, 0x81000046), (aTrace 0 4, 0x80000003), (aSlot 70 0xC, 3)]

theorem witness_CaptureRows_2 :
    tracing.traceOpen 0 = true ∧ bitOf (tracing.regN (aTrace 0 4)) 31 = true ∧ bitsOf (tracing.regN (aTrace 0 4)) 5 0 = 3
    ∧ tracing.traceLag 0 tracing.ticks ≠ 0 ∧ (State.regsAre inRun [(aTrace 0 0, 0x80000000)]).traceLag 0 inRun.ticks = 0
    ∧ ((tracing.trace 0).lost = 0 ∧ tracing.traceStaged 0 + 16 ≤ 65536)
    ∧ (State.regsAre inRun [(aSnap 5 0xC, 1)]).snapState 5 = 2 ∧ (snapIn 1 ⟨1000001, 0, 0, 0, 0, false⟩).snapState 5 = 1
    ∧ (snapIn 3 ⟨0, 999000, 999000, 1, 1, true⟩).snapState 5 = 3 ∧ inRun.snapState 5 = 0
    ∧ (let s := State.regsAre inRun [(aSnap 5 4, 65000), (aSnap 5 8, 1000)];
      65536 - s.fld (aSnap 5 4) 16 0 < s.fld (aSnap 5 8) 16 0) := by decide +kernel

theorem witness_GolletRows_3 :
    ((glUp .init).gol 2).half = none ∧ ((glUp { Gol.init with half := some 5 }).gol 2).half = some 5
    ∧ isCal (BitVec.ofNat 64 (6 * 2 ^ 61)) = true ∧ isCal (BitVec.ofNat 64 updateFlit) = false
    ∧ (State.regsAre inRun [(aGl 2 0, 1), (aGl 2 0xC, 1)]).golState 2 = 1
    ∧ (State.regsAre inRun [(aGl 2 0, 1), (aGl 2 0xC, 1)]).lanesOn = true := by decide +kernel

/-- R448, R452: the scrambler delays a lone 1 by 39 and by 58 bits; a port in training sends its DEV_ID and number. -/
theorem test_scrambler : (scramble 0 1).2 = 1 + 2 ^ 39 + 2 ^ 58 := by decide +kernel
theorem test_training :
    (State.regsAre inRun [(0x04000000, 0x1234), (aGl 2 0, 1), (aGl 2 0xC, 1)]).golTraining 2 = some (0x1234, 2) := by
  decide +kernel

theorem witness_EpochRows_2 :
    inRun.power.aon = true
    ∧ (let s : State := State.regsAre { inRun with sync := { inRun.sync with outs := [999998] } } [(0x04000010, 0x200)];
      s.fld 0x04000010 9 8 ≠ 0 ∧ (∃ f ∈ s.sync.outs, f ≤ s.frame ∧ s.frame < f + 4))
    ∧ (∃ f ∈ ({ inRun with sync := { inRun.sync with outs := [1000002] } } : State).sync.outs, inRun.frame < f + 4) := by
  decide +kernel

/-- A write of the NV die in progress. -/
def writing (w : NvWrite) (at_ : Nat) : State := { inRun with bar := { inRun.bar with write := some w, writeAt := at_ } }

theorem witness_PlatformRows_2 :
    (inRun.baristaRuns = true ∧ inRun.bar.write = none ∧ inRun.bar.queue = [] ∧ inRun.bar.stores = [] ∧ inRun.bar.page = none)
    ∧ (writing (.record 1024 (List.replicate 64 7) false none false) 950000).bar.write
        = some (.record 1024 (List.replicate 64 7) false none false)
    ∧ (950000 < inRun.ticks ∧ 950000 + 50000 ≤ inRun.ticks)
    ∧ (writing (.record 1024 (List.replicate 64 7) false (some (takenOf 0xC 0 [])) true) 950000).bar.write
        = some (.record 1024 (List.replicate 64 7) false (some (takenOf 0xC 0 [])) true)
    ∧ (writing (.store 5 1 2) 950000).bar.write = some (.store 5 1 2)
    ∧ ((writing (.page 0x81000000 [1, 2]) 950000).bar.write = some (.page 0x81000000 [1, 2])
      ∧ bitsOf (0x81000000 : Word).toNat 27 24 = 1) := by decide +kernel

theorem witness_AcquisitionRows_3 :
    (inRun.runSpans 999000 inRun.ticks = [(999000, 1000000)])
    ∧ ((window 200 (some (5, 6, false))).trk = none ∧ ({ window 200 (some (5, 6, false)) with trk := some (0, 0, true) } : Win).trk
        = some (0, 0, true))
    ∧ bitOf ((State.regsAre inRun [(0x70000108, 64)]).regN (0x70000100 + 4 * (70 / 32))) (70 % 32) = true
    ∧ sget [] inRun.cap.merge (70 / 32) = []
    ∧ (slot70 Slot.init).winTicks 70 (window 163 none) ≠ []
    ∧ (inRun.input 5).lastRec = none ∧ (inRun.input 5).owed = none
    ∧ (({ inRun with inputs := [(5, { Input.init with lastRec := some 999000 })] } : State).input 5).lastRec = some 999000
    ∧ inRun.ticks < 999000 + 1024 := by decide +kernel

theorem witness_PlaybackRows_2 :
    ((playState (playing (segment 0 8 false) 999972 8)).ticks + 4 < 999973 + 4 * 8)
    ∧ (playing (segment 0 8 false) 999972 8).selected = false ∧ (segment 0 8 false).condEn = false
    ∧ (let s : State := { inRun with trks := [(1, { Trk.init with shots := [shot 1 1000004] })] };
      ∃ x ∈ (s.trk 1).shots, x.stretch ≠ 5)
    ∧ (State.regsAre inRun [(aCl 1 0xC00, 0x100)]).fld (aCl 1 0xC00) 8 8 = 1 := by decide +kernel

theorem witness_RdspMemoryAndPorts_2 :
    (bitsOf (0x80080003 : Word).toNat 31 30 = 2 ∧ bitsOf (0x80080003 : Word).toNat 29 16 = 8
      ∧ sbitsOf (0x80080003 : Word).toNat 15 0 ≠ 0 ∧ 2 ^ 3 ≤ 8 ∧ 8 < 2 * 2 ^ 3)
    ∧ (let s : State := inFrame (core { issuing with x := [(15, 0xFFFFFFFF)] }) (2 ^ 32 + 5);
      s.frame % 2 ^ 32 < ((s.rd 1).getX 15).toNat ∧ 2 ^ 32 ≤ s.frame)
    ∧ (let s : State := inFrame (core { issuing with x := [(15, 0xFFFFFFFF)] }) (2 ^ 32 + 5);
      s.rdReady 1 = true ∧ (s.rd 1).reps = [] ∧ (s.rd 1).branch = none)
    ∧ (0x25 : BitVec 8).toNat = 0x20 + 3 * 1 + 2 ∧ (0xFF : BitVec 8).toNat = 0x40 + 0x40 * 2 + 63 := by decide +kernel

/-- R318: in a bit-reversed space of 8 words a step of 1 at bit 2 goes from 0 to 4, and from 4 to 2. -/
theorem test_bit_reversed : postModify 0 0x80080001 = 4 ∧ postModify 4 0x80080001 = 2 := by decide +kernel

/-- R168: a D-bit written in frame W is read from W + 2 on; a branch that waits for it goes on 2 frames after its
resolution, and an event at the least lead of 24 frames reaches the ball 32 frames after its play frame: 58 in all. -/
theorem test_ladder :
    let bit : DBit := ⟨true, true, false, 0, false⟩
    let a : State := { withSeq { going with tl := 1000100, state := 4, wait := .dbit 140 false 1000074 (some (true, 70)) } with
      dbits := [(140, bit)], dlog := [⟨1000000, 140, ⟨false, false, false, 0, false⟩⟩] }
    (out (.brdResolution 9) (inFrame a 1000001)).seq 9 = a.seq 9
      ∧ ((out (.brdResolution 9) (inFrame a 1000002)).seq 9).nextIssue = 1000004
      ∧ ((out (.brdResolution 9) (inFrame a 1000002)).seq 9).pc = 70 := by decide +kernel
end Sys2Proof.Tests
end

section
/-!
SUPPORT. Folds over units, entries of a list left out, and fields of a register that are written and read.
-/
namespace Sys2Proof.Machine

/-! ## Sparse lists and folds -/

/-- Entries left out by number read as unlisted, and every other number as it did. -/
theorem sget_filter_key {α : Type} (d : α) (keep : Nat → Bool) (l : List (Nat × α)) (k : Nat) :
    sget d (l.filter (fun p => keep p.1)) k = if keep k then sget d l k else d := by
  induction l with
  | nil => simp
  | cons p t ih =>
    obtain ⟨j, v⟩ := p
    by_cases hj : j = k
    · subst hj
      cases hk : keep j <;> simp_all [sget]
    · cases hk : keep j <;> simp [hk, sget, hj, ih]

theorem filter_serase_of_not {α : Type} {keep : Nat → Bool} {k : Nat} (hk : keep k = false) (l : List (Nat × α)) :
    (serase l k).filter (fun p => keep p.1) = l.filter (fun p => keep p.1) := by
  induction l with
  | nil => rfl
  | cons p t ih =>
    obtain ⟨j, v⟩ := p
    by_cases hj : j = k
    · subst hj; simp [serase, hk, ih]
    · simp only [serase, hj, if_false, List.filter_cons, ih]

theorem filter_sins_of_not {α : Type} {keep : Nat → Bool} {k : Nat} (hk : keep k = false) (l : List (Nat × α)) (v : α) :
    (sins l k v).filter (fun p => keep p.1) = l.filter (fun p => keep p.1) := by
  induction l with
  | nil => simp [sins, hk]
  | cons p t ih =>
    obtain ⟨j, w⟩ := p
    by_cases hj : k < j
    · simp [sins, hj, hk]
    · simp only [sins, hj, if_false, List.filter_cons, ih]

/-- A write of a number that is left out does not show. -/
theorem filter_sset_of_not {α : Type} [DecidableEq α] (d : α) {keep : Nat → Bool} {k : Nat} (hk : keep k = false)
    (l : List (Nat × α)) (v : α) :
    (sset d l k v).filter (fun p => keep p.1) = l.filter (fun p => keep p.1) := by
  unfold sset
  split
  · exact filter_serase_of_not hk l
  · rw [filter_sins_of_not hk, filter_serase_of_not hk]

/-- What no round changes, the fold does not change. -/
theorem forEach_keeps {α σ τ : Type} (view : σ → τ) {f : α → σ → σ} (h : ∀ a s, view (f a s) = view s)
    (l : List α) (s : σ) : view (forEach l f s) = view s := by
  induction l generalizing s with
  | nil => rfl
  | cons a t ih => exact (ih (f a s)).trans (h a s)

theorem repeatN_keeps {σ τ : Type} (view : σ → τ) {f : σ → σ} (h : ∀ s, view (f s) = view s)
    (n : Nat) (s : σ) : view (repeatN n f s) = view s := by
  induction n generalizing s with
  | zero => rfl
  | succ n ih => exact (ih (f s)).trans (h s)

/-- Where the rounds that `hit` names make one change, which made twice is made once, and the others none, the fold makes
it where it has such a round. -/
theorem forEach_hits {α σ τ : Type} (view : σ → τ) {f : α → σ → σ} (hit : α → Bool) {g : τ → τ}
    (h : ∀ a s, view (f a s) = if hit a then g (view s) else view s) (hg : ∀ x, g (g x) = g x) (l : List α) (s : σ) :
    view (forEach l f s) = if l.any hit then g (view s) else view s := by
  induction l generalizing s with
  | nil => rfl
  | cons a t ih =>
    have e : forEach (a :: t) f s = forEach t f (f a s) := rfl
    rw [e, ih, h]
    cases ha : hit a <;> simp [ha, hg]

/-! ## Fields of a register -/

/-- Replacing a field keeps what stands above and below it. -/
theorem withBits_eq (n v : Nat) {hi lo : Nat} (h : lo ≤ hi) :
    withBits n hi lo v = 2 ^ lo * (2 ^ (hi + 1 - lo) * (n / 2 ^ (hi + 1)) + v % 2 ^ (hi + 1 - lo)) + n % 2 ^ lo := by
  have hp : 2 ^ (hi + 1) = 2 ^ lo * 2 ^ (hi + 1 - lo) := by rw [← Nat.pow_add]; congr 1; omega
  have hn := Nat.div_add_mod n (2 ^ lo)
  have hq := Nat.div_add_mod (n / 2 ^ lo) (2 ^ (hi + 1 - lo))
  rw [Nat.div_div_eq_div_mul, ← hp] at hq
  simp only [withBits, bitsOf]
  generalize 2 ^ (hi + 1 - lo) * (n / 2 ^ (hi + 1)) = top at *
  generalize n / 2 ^ lo % 2 ^ (hi + 1 - lo) = old at *
  rw [← hq, Nat.mul_add] at hn
  rw [Nat.mul_add, Nat.mul_comm old, Nat.mul_comm (v % _)]
  omega

theorem bitsOf_withBits (n v : Nat) {hi lo : Nat} (h : lo ≤ hi) :
    bitsOf (withBits n hi lo v) hi lo = v % 2 ^ (hi + 1 - lo) := by
  rw [withBits_eq n v h, bitsOf, Nat.mul_add_div (Nat.two_pow_pos lo), Nat.div_eq_of_lt (Nat.mod_lt _ (Nat.two_pow_pos lo)),
    Nat.add_zero, Nat.mul_add_mod, Nat.mod_mod]

/-- Replacing a field leaves those above it alone. -/
theorem bitsOf_withBits_above (n v : Nat) {hi lo hi' lo' : Nat} (h : lo ≤ hi) (h' : hi < lo') :
    bitsOf (withBits n hi lo v) hi' lo' = bitsOf n hi' lo' := by
  have hp : 2 ^ (hi + 1) = 2 ^ lo * 2 ^ (hi + 1 - lo) := by rw [← Nat.pow_add]; congr 1; omega
  have hl : 2 ^ lo' = 2 ^ (hi + 1) * 2 ^ (lo' - (hi + 1)) := by rw [← Nat.pow_add]; congr 1; omega
  have hd : withBits n hi lo v / 2 ^ (hi + 1) = n / 2 ^ (hi + 1) := by
    rw [withBits_eq n v h]
    conv => lhs; rw [hp, ← Nat.div_div_eq_div_mul, Nat.mul_add_div (Nat.two_pow_pos lo),
      Nat.div_eq_of_lt (Nat.mod_lt _ (Nat.two_pow_pos lo)), Nat.add_zero, Nat.mul_add_div (Nat.two_pow_pos _),
      Nat.div_eq_of_lt (Nat.mod_lt _ (Nat.two_pow_pos _)), Nat.add_zero, ← hp]
  simp only [bitsOf, hl, ← Nat.div_div_eq_div_mul, hd]

/-- A field of a word is a field of its low 32 bits. -/
theorem bitsOf_mod_word (n : Nat) {hi lo : Nat} (h : hi < 32) : bitsOf (n % 2 ^ 32) hi lo = bitsOf n hi lo := by
  by_cases hl : lo ≤ hi
  · have e : 2 ^ 32 = 2 ^ lo * 2 ^ (32 - lo) := by rw [← Nat.pow_add]; congr 1; omega
    rw [bitsOf, e, Nat.mod_mul_right_div_self, Nat.mod_mod_of_dvd _ (Nat.pow_dvd_pow 2 (by omega)), bitsOf]
  · have e : hi + 1 - lo = 0 := by omega
    simp [bitsOf, e, Nat.mod_one]

theorem State.fld_setFld (s : State) (a v : Nat) {hi lo : Nat} (h : lo ≤ hi) (h32 : hi < 32) :
    (s.setFld a hi lo v).fld a hi lo = v % 2 ^ (hi + 1 - lo) := by
  simp only [State.fld, State.regN, State.setFld, State.setRegN, State.reg_setReg, BitVec.toNat_ofNat]
  rw [bitsOf_mod_word _ h32, bitsOf_withBits _ _ h]

/-- A write of one field leaves those above it alone. -/
theorem State.fld_setFld_above (s : State) (a v : Nat) {hi lo hi' lo' : Nat} (h : lo ≤ hi) (h' : hi < lo') (h32 : hi' < 32) :
    (s.setFld a hi lo v).fld a hi' lo' = s.fld a hi' lo' := by
  simp only [State.fld, State.regN, State.setFld, State.setRegN, State.reg_setReg, BitVec.toNat_ofNat]
  rw [bitsOf_mod_word _ h32, bitsOf_withBits_above _ _ h h']

/-- A flag raised is set. -/
theorem State.bitOf_raise (s : State) (a : Nat) {b : Nat} (h : b < 32) : bitOf ((s.raise a b).regN a) b = true := by
  have e := s.fld_setFld a 1 (Nat.le_refl b) h
  have hb : b + 1 - b = 1 := by omega
  rw [hb] at e
  rw [bitOf_eq_bitsOf, decide_eq_true_iff]
  exact e

theorem State.reg64_setReg64 (s : State) (a v : Nat) : (s.setReg64 a v).reg64 a = v % 2 ^ 64 := by
  have ha : a ≠ a + 4 := by omega
  simp only [State.reg64, State.regN, State.setReg64, State.setRegN, State.reg_setReg, State.reg_setReg_other _ _ ha,
    BitVec.toNat_ofNat]
  omega

theorem State.reg_setReg64_other (s : State) {a b : Nat} (v : Nat) (h : b ≠ a) (h4 : b ≠ a + 4) :
    (s.setReg64 a v).reg b = s.reg b :=
  (State.reg_setReg_other _ _ h4).trans (State.reg_setReg_other s _ h)

end Sys2Proof.Machine
end

section
/-!
SUPPORT. The outline of a state: what reports, completions and abandoned work leave alone, and that each of them does.
-/
namespace Sys2Proof.Machine

/-! ## The outline of a state -/

/-- The registers in which reports of a fault and work abandoned with it are counted and flagged: the recorder's, the
count of discarded Pauli entries, the capture engine's (and with them all above) and the shots of the trackers. -/
def isReportReg (a : Nat) : Bool :=
  decide (a = 0x03000400 ∨ a = 0x03000410 ∨ a = 0x03000414 ∨ a = 0x60000014 ∨ 0x70000000 ≤ a
    ∨ a % 0x100000 = 0x2004 ∨ a % 0x100000 = 0x200C)

/-- A state without what a fault may change beside its own effect: reports, completions and abandoned work. -/
def State.outline (s : State) : State :=
  { s with
    regs := s.regs.filter (fun p => !isReportReg p.1), host := .init, cap := .init, bar := .init, modes := State.reset.modes,
    plays := [], clusters := [], slots := [], trks := [], markers := [], voices := [], dac := [] }

theorem State.outline_setReg (s : State) {a : Nat} (h : isReportReg a = true) (v : Word) :
    (s.setReg a v).outline = s.outline := by
  have e : (s.setReg a v).regs.filter (fun p => !isReportReg p.1) = s.regs.filter (fun p => !isReportReg p.1) :=
    filter_sset_of_not (keep := fun k => !isReportReg k) _ (by simp [h]) _ _
  simp only [State.outline, e]
  rfl

theorem State.outline_setFld (s : State) {a : Nat} (h : isReportReg a = true) (hi lo v : Nat) :
    (s.setFld a hi lo v).outline = s.outline := s.outline_setReg h _

theorem State.outline_host (s : State) (h : HostUnit) : ({ s with host := h } : State).outline = s.outline := rfl

theorem State.outline_modCl (s : State) (c : Nat) (f : Cluster → Cluster) : (s.modCl c f).outline = s.outline := rfl

theorem State.outline_modHq (s : State) (q : Nat) (f : HostQ → HostQ) : (s.modHq q f).outline = s.outline := rfl

theorem State.outline_queueTx (s : State) (k : Nat) (t : TxFrame) : (s.queueTx k t).outline = s.outline := rfl

theorem State.outline_modTrace (s : State) (t : Nat) (f : Trace → Trace) : (s.modTrace t f).outline = s.outline := rfl

/-- States with one part in common agree on whatever that part shows. -/
theorem State.view_of_part {τ : Type} (part : State → State) (view : State → τ)
    (hview : ∀ s : State, view (part s) = view s) {s t : State} (h : part t = part s) : view t = view s := by
  rw [← hview t, ← hview s, h]

theorem State.reg_outline (s : State) {a : Nat} (h : isReportReg a = false) : s.outline.reg a = s.reg a :=
  (sget_filter_key _ (fun k => !isReportReg k) s.regs a).trans (by simp [h, State.reg])

/-- States of one outline agree on every register that no report writes. -/
theorem State.reg_of_outline {s t : State} (h : t.outline = s.outline) {a : Nat} (ha : isReportReg a = false) :
    t.reg a = s.reg a :=
  State.view_of_part State.outline (·.reg a) (fun u => u.reg_outline ha) h

theorem isReportReg_aTrace (t : Nat) : isReportReg (aTrace t 0) = true := by
  rw [isReportReg, aTrace, decide_eq_true_iff]; omega

theorem isReportReg_shots (c : Nat) : isReportReg (aCl c 0x2004) = true ∧ isReportReg (aCl c 0x200C) = true := by
  constructor <;> rw [isReportReg, aCl, decide_eq_true_iff] <;> omega

theorem isReportReg_recorder : [0x03000400, 0x03000410, 0x03000414].all isReportReg = true := by decide

/-- The Pauli frame is no report. -/
theorem isReportReg_pauli {i : Nat} (h : i < 64) : isReportReg (0x60000100 + 4 * i) = false := by
  rw [isReportReg, decide_eq_false_iff_not]; omega

/-! ## Reports -/

theorem State.refill_eq (s : State) (k : Nat) : s.refill k = { s with bar := (s.refill k).bar } := by
  unfold State.refill
  split
  · rfl
  · simp only
    split <;> rfl

/-- What shows neither the Barista nor the three registers of the recorder, a record leaves alone (R527, R528). -/
theorem State.record_keeps {τ : Type} (view : State → τ) (hbar : ∀ (s : State) (b : Bar), view { s with bar := b } = view s)
    (hreg : ∀ (s : State) (v : Word), ∀ a ∈ [0x03000400, 0x03000410, 0x03000414], view (s.setReg a v) = view s)
    (s : State) (code : Nat) (detail : List Byte) : view (s.record code detail) = view s := by
  have hfill : view (s.refill code) = view s := by rw [State.refill_eq]; exact hbar s _
  have hqueue (u : State) (hu : view u = view s) :
      view (if 64 ≤ u.bar.queue.length then (u.raise 0x03000400 1).count 0x03000410 1
        else u.queueRec (u.formRec code detail none)) = view s := by
    split
    · exact ((hreg _ _ _ (by decide)).trans (hreg _ _ _ (by decide))).trans hu
    · exact (hbar u _).trans hu
  unfold State.record
  simp only
  split
  · exact ((hreg _ _ _ (by decide)).trans (hbar _ _)).trans hfill
  · refine hqueue _ ?_
    split
    · exact hfill
    · exact (hbar _ _).trans hfill

theorem State.mode_record (s : State) (code : Nat) (detail : List Byte) : (s.record code detail).mode = s.mode :=
  State.record_keeps (·.mode) (fun _ _ => rfl) (fun _ _ _ _ => rfl) s code detail

theorem State.host_record (s : State) (code : Nat) (detail : List Byte) : (s.record code detail).host = s.host :=
  State.record_keeps (·.host) (fun _ _ => rfl) (fun _ _ _ _ => rfl) s code detail

theorem State.reg_record (s : State) (code : Nat) (detail : List Byte) {a : Nat}
    (h : a ∉ [0x03000400, 0x03000410, 0x03000414]) : (s.record code detail).reg a = s.reg a :=
  State.record_keeps (·.reg a) (fun _ _ => rfl)
    (fun s v _ hb => State.reg_setReg_other s v (fun e => h (e ▸ hb))) s code detail

theorem State.outline_record (s : State) (code : Nat) (detail : List Byte) :
    (s.record code detail).outline = s.outline :=
  State.record_keeps State.outline (fun _ _ => rfl)
    (fun s v a ha => s.outline_setReg (List.all_eq_true.mp isReportReg_recorder a ha) v) s code detail

theorem State.outline_sendReply (s : State) (q op status : Nat) (seq tag arg : Word) (pl : List Byte) (resent noAck : Bool)
    (peer : Option Peer) : (s.sendReply q op status seq tag arg pl resent noAck peer).outline = s.outline := by
  unfold State.sendReply
  simp only
  split
  · rfl
  · split
    · rw [State.outline_queueTx]
    · rw [State.outline_modHq, State.outline_queueTx]

/-- A completion concerns the host unit alone (R89). -/
theorem State.outline_complete (s : State) (t : Taken) (st : Status) (pl : List Byte) :
    (s.complete t st pl).outline = s.outline := by
  unfold State.complete
  simp only
  split
  · rw [State.outline_modHq, State.outline_host]
  · rw [State.outline_sendReply, State.outline_modHq, State.outline_modHq, State.outline_host]

theorem State.outline_drainAborts (s : State) (q : Nat) : (s.drainAborts q).outline = s.outline := by
  unfold State.drainAborts
  refine repeatN_keeps State.outline (fun s => ?_) _ _
  split
  · split
    · exact State.outline_complete ..
    · rfl
  · rfl

theorem State.outline_emit (s : State) (isEvent : Bool) (r : List Byte) : (s.emit isEvent r).outline = s.outline := by
  unfold State.emit
  split
  · rfl
  · split
    · exact (State.outline_setReg _ (by decide) _).trans (State.outline_setReg _ (by decide) _)
    · split <;> rfl

theorem State.outline_sendStream (s : State) (t : TxFrame) : (s.sendStream t).outline = s.outline := by
  unfold State.sendStream
  simp only
  split <;> rfl

theorem State.outline_formStream (s : State) (isEvent : Bool) : (s.formStream isEvent).outline = s.outline := by
  unfold State.formStream
  simp only
  split
  · rfl
  · cases isEvent <;> exact State.outline_sendStream ..

theorem State.outline_flushStream (s : State) (isEvent : Bool) : (s.flushStream isEvent).outline = s.outline :=
  repeatN_keeps State.outline (fun s => s.outline_formStream isEvent) _ _

theorem State.outline_stageTrace (s : State) (t k : Nat) : (s.stageTrace t k).outline = s.outline := by
  unfold State.stageTrace
  simp only
  split
  · rfl
  · rw [State.outline_queueTx, State.outline_modTrace]

theorem State.outline_fenceTrace (s : State) (t : Nat) : (s.fenceTrace t).outline = s.outline :=
  repeatN_keeps State.outline (fun s => s.outline_stageTrace t _) _ _

/-- The markers go out with what the streams hold; beside them only the controls of the TRACE streams change (R105, R137). -/
theorem State.outline_faultMarkers (s : State) : s.faultMarkers.outline = s.outline := by
  unfold State.faultMarkers
  simp only
  refine (forEach_keeps State.outline (fun t s => ?_) _ _).trans ?_
  · split
    · rw [State.outline_setFld _ (isReportReg_aTrace t), State.outline_queueTx, State.outline_modTrace,
        State.outline_fenceTrace]
    · rfl
  · refine (State.outline_host _ _).trans ?_
    rw [State.outline_sendStream, State.outline_sendStream, State.outline_flushStream, State.outline_flushStream]

theorem State.outline_dropRecover (s : State) : s.dropRecover.outline = s.outline := by
  unfold State.dropRecover
  split
  · exact State.outline_complete ..
  · rfl

/-! ## Work that ends -/

theorem State.outline_dropPauli {s t : State} (h : t.outline = s.outline) :
    t.dropPauli.outline = ({ s with perc := { s.perc with held := [] } } : State).outline :=
  (State.outline_setReg _ (by decide) _).trans
    (congrArg (fun u : State => { u with perc := { u.perc with held := [] } }) h)

theorem State.outline_endPlay (s : State) (k : Nat) : (s.endPlay k).outline = s.outline := by
  unfold State.endPlay
  split
  · rfl
  · simp only
    split <;> rfl

theorem State.outline_abortShots (s : State) (c : Nat) : (s.abortShots c).outline = s.outline :=
  forEach_keeps State.outline (fun _ s =>
    (State.outline_setReg _ (isReportReg_shots c).2 _).trans (State.outline_setReg s (isReportReg_shots c).1 _)) _ _

/-- Every pending commit goes, and nothing else that the outline shows (R132). -/
theorem State.outline_abortAll (s : State) : s.abortAll.outline = ({ s with commits := [] } : State).outline := by
  unfold State.abortAll
  simp only
  generalize hs : forEach (List.range 64) _ _ = t
  have ht : t.outline = s.outline := by
    rw [← hs]
    refine forEach_keeps State.outline (fun q s => ?_) _ _
    split
    · rfl
    · exact State.outline_drainAborts ..
  have hf : (t.setFld 0x03000400 2 2 0).outline = s.outline := (State.outline_setReg _ (by decide) _).trans ht
  exact congrArg (fun u : State => { u with commits := [] }) hf

end Sys2Proof.Machine
end

section
/-!
SUPPORT. What the end of a cluster's work and the fault records of the bias outputs do to the outline.
-/
namespace Sys2Proof.Machine

/-! ## The work of a cluster ends (R57, R129) -/

theorem Seq.halted_halted (x : Seq) : x.halted.halted = x.halted := by
  unfold Seq.halted
  by_cases h : x.state = 6 <;> simp [h]

/-- The sequencers of cluster `c` halt. -/
def State.haltSeqs (s : State) (c : Nat) : State :=
  forEach (List.range 8) (fun i s => s.modSeq (8 * c + i) Seq.halted) s

theorem State.haltSeqs_keeps {τ : Type} (view : State → τ)
    (h : ∀ (s : State) (l : Sparse Seq), view { s with seqs := l } = view s) (s : State) (c : Nat) :
    view (s.haltSeqs c) = view s :=
  forEach_keeps view (fun _ s => h s _) _ s

theorem State.seq_haltSeqs (s : State) (c q : Nat) :
    (s.haltSeqs c).seq q = if decide (q / 8 = c) then (s.seq q).halted else s.seq q := by
  have hstep (i : Nat) (u : State) : (u.modSeq (8 * c + i) Seq.halted).seq q
      = if decide (q = 8 * c + i) then (u.seq q).halted else u.seq q := by
    by_cases e : q = 8 * c + i
    · simp [e]
    · simp [e, State.seq_modSeq_other _ _ e]
  refine (forEach_hits (·.seq q) _ hstep Seq.halted_halted _ s).trans ?_
  congr 1
  simp only [List.any_eq_true, List.mem_range, decide_eq_true_eq, eq_iff_iff]
  constructor
  · rintro ⟨i, hi, rfl⟩; omega
  · intro e; exact ⟨q % 8, by omega, by omega⟩

/-- A core stops, and its hand-in queue is emptied (R57, R317). -/
def Rdsp.ended (r : Rdsp) : Rdsp := { r.stopped with queue := [] }

/-- The event queues of cluster `c` are emptied. -/
def State.emptyQueues (s : State) (c : Nat) : State :=
  { s with tqueues := s.tqueues.filter (fun p => p.1 / 256 ≠ c) }

/-- The microengine, the core and the event queues of cluster `c` end their work. -/
def State.endUnits (s : State) (c : Nat) : State :=
  ((s.modMe c Me.emptied).modRd c Rdsp.ended).emptyQueues c

/-- What the end of a cluster's work leaves alone. -/
def State.besidesUnits (s : State) : State := { s.outline with seqs := [], mes := [], rdsps := [], tqueues := [] }

theorem State.besidesUnits_of_outline {s t : State} (h : t.outline = s.outline) : t.besidesUnits = s.besidesUnits :=
  congrArg (fun u : State => { u with seqs := [], mes := [], rdsps := [], tqueues := [] }) h

theorem State.besidesUnits_modMe (s : State) (c : Nat) (f : Me → Me) : (s.modMe c f).besidesUnits = s.besidesUnits := rfl

theorem State.besidesUnits_modRd (s : State) (c : Nat) (f : Rdsp → Rdsp) :
    (s.modRd c f).besidesUnits = s.besidesUnits := rfl

theorem State.besidesUnits_emptyQueues (s : State) (c : Nat) : (s.emptyQueues c).besidesUnits = s.besidesUnits := rfl

theorem State.besidesUnits_endUnits (s : State) (c : Nat) : (s.endUnits c).besidesUnits = s.besidesUnits := by
  rw [State.endUnits, State.besidesUnits_emptyQueues, State.besidesUnits_modRd, State.besidesUnits_modMe]

/-- The units that are no sequencers end without them. -/
theorem State.seq_endUnits (s : State) (c q : Nat) : (s.endUnits c).seq q = s.seq q := by
  have hqueues (u : State) : (u.emptyQueues c).seq q = u.seq q := rfl
  have hcore (u : State) : (u.modRd c Rdsp.ended).seq q = u.seq q := rfl
  have hmicro (u : State) : (u.modMe c Me.emptied).seq q = u.seq q := rfl
  rw [State.endUnits, hqueues, hcore, hmicro]

theorem State.tq_endUnits (s : State) (c k : Nat) :
    (s.endUnits c).tq k = if decide (k / 256 = c) then .init else s.tq k := by
  refine (sget_filter_key TQueue.init (fun k => decide (k / 256 ≠ c)) s.tqueues k).trans ?_
  by_cases e : k / 256 = c <;> simp [e, State.tq]

theorem State.me_endUnits (s : State) (c j : Nat) :
    (s.endUnits c).me j = if decide (j = c) then (s.me j).emptied else s.me j := by
  refine (sget_supd _ s.mes j c _).trans ?_
  by_cases e : j = c <;> simp [e, State.me]

theorem State.rd_endUnits (s : State) (c j : Nat) :
    (s.endUnits c).rd j = if decide (j = c) then (s.rd j).ended else s.rd j := by
  refine (sget_supd Rdsp.init s.rdsps j c Rdsp.ended).trans ?_
  by_cases e : j = c <;> simp [e, State.rd]

/-- The rest of a cluster's work shows in no outline. -/
theorem State.outline_stopCluster (s : State) (c : Nat) :
    (s.stopCluster c).outline = ((s.haltSeqs c).endUnits c).outline := by
  unfold State.stopCluster
  rw [← State.haltSeqs]
  generalize s.haltSeqs c = s1
  simp only
  generalize hs2 : (s1.modMe c Me.emptied).modRd c _ = s2
  generalize hs3 : State.abortShots _ c = s3
  have h3 : s3.outline = s2.outline := by
    rw [← hs3, State.outline_abortShots]
    exact forEach_keeps State.outline (fun t s => s.outline_endPlay _) _ _
  rw [State.outline_modCl]
  refine (forEach_keeps State.outline ?_ (List.range 4) _).trans ((forEach_keeps State.outline ?_ (List.range 64) _).trans ?_)
  · exact fun _ _ => rfl
  · exact fun _ _ => rfl
  refine (congrArg (fun u : State => { u with tqueues := u.tqueues.filter (fun p => p.1 / 256 ≠ c) }) h3).trans ?_
  rw [← hs2]
  rfl

theorem State.besidesUnits_stopCluster (s : State) (c : Nat) : (s.stopCluster c).besidesUnits = s.besidesUnits := by
  rw [State.besidesUnits_of_outline (s.outline_stopCluster c), State.besidesUnits_endUnits,
    State.haltSeqs_keeps State.besidesUnits (fun _ _ => rfl)]

theorem State.seq_stopCluster (s : State) (c q : Nat) :
    (s.stopCluster c).seq q = if decide (q / 8 = c) then (s.seq q).halted else s.seq q := by
  rw [State.view_of_part State.outline (·.seq q) (fun _ => rfl) (s.outline_stopCluster c), State.seq_endUnits,
    State.seq_haltSeqs]

theorem State.tq_stopCluster (s : State) (c k : Nat) :
    (s.stopCluster c).tq k = if decide (k / 256 = c) then .init else s.tq k := by
  rw [State.view_of_part State.outline (·.tq k) (fun _ => rfl) (s.outline_stopCluster c), State.tq_endUnits,
    State.haltSeqs_keeps (·.tq k) (fun _ _ => rfl)]

theorem State.me_stopCluster (s : State) (c j : Nat) :
    (s.stopCluster c).me j = if decide (j = c) then (s.me j).emptied else s.me j := by
  rw [State.view_of_part State.outline (·.me j) (fun _ => rfl) (s.outline_stopCluster c), State.me_endUnits,
    State.haltSeqs_keeps (·.me j) (fun _ _ => rfl)]

theorem State.rd_stopCluster (s : State) (c j : Nat) :
    (s.stopCluster c).rd j = if decide (j = c) then (s.rd j).ended else s.rd j := by
  rw [State.view_of_part State.outline (·.rd j) (fun _ => rfl) (s.outline_stopCluster c), State.rd_endUnits,
    State.haltSeqs_keeps (·.rd j) (fun _ _ => rfl)]

/-! ## Every cluster's work ends -/

/-- The work of the 16 clusters ends. -/
def State.stopClusters (s : State) : State := forEach (List.range 16) (fun c s => s.stopCluster c) s

theorem State.besidesUnits_stopClusters (s : State) : s.stopClusters.besidesUnits = s.besidesUnits :=
  forEach_keeps State.besidesUnits (fun c s => s.besidesUnits_stopCluster c) _ s

theorem any_range_eq {n k : Nat} (h : k < n) : (List.range n).any (fun c => decide (k = c)) = true :=
  List.any_eq_true.mpr ⟨k, List.mem_range.mpr h, decide_eq_true rfl⟩

theorem State.seq_stopClusters (s : State) {q : Nat} (h : q < 128) : s.stopClusters.seq q = (s.seq q).halted :=
  (forEach_hits (·.seq q) _ (fun c u => u.seq_stopCluster c q) Seq.halted_halted _ s).trans
    (if_pos (any_range_eq (by omega)))

theorem State.tq_stopClusters (s : State) {k : Nat} (h : k / 256 < 16) : s.stopClusters.tq k = .init :=
  (forEach_hits (·.tq k) _ (g := fun _ => .init) (fun c u => u.tq_stopCluster c k) (fun _ => rfl) _ s).trans
    (if_pos (any_range_eq h))

theorem State.me_stopClusters (s : State) {c : Nat} (h : c < 16) : s.stopClusters.me c = (s.me c).emptied :=
  (forEach_hits (·.me c) _ (g := Me.emptied) (fun j u => u.me_stopCluster j c) (fun _ => rfl) _ s).trans
    (if_pos (any_range_eq h))

theorem State.rd_stopClusters (s : State) {c : Nat} (h : c < 16) :
    s.stopClusters.rd c = (s.rd c).ended :=
  (forEach_hits (·.rd c) _ (g := Rdsp.ended) (fun j u => u.rd_stopCluster j c) (fun _ => rfl) _ s).trans
    (if_pos (any_range_eq h))

/-! ## The bias outputs (R495) -/

theorem Bias.live_toFault (x : Bias) (f : Nat) : (x.toFault f).live = x.live := by
  change (x.retarget (recRange x.aonFault) f).live = x.live
  unfold Bias.retarget
  split
  · rfl
  · split <;> rfl

/-- The 64 bias outputs take their fault records as targets in frame `f`. -/
def faultBiases (l : Sparse Bias) (f : Nat) : Sparse Bias :=
  forEach (List.range 64) (fun b l => supd .init l b (fun x => x.toFault f)) l

theorem sget_faultBiases (l : Sparse Bias) (f : Nat) {k : Nat} (h : k < 64) :
    (sget .init (faultBiases l f) k).fault = true ∧ (sget .init (faultBiases l f) k).live = (sget .init l k).live := by
  have e := forEach_hits (fun l : Sparse Bias => ((sget .init l k).fault, (sget .init l k).live))
    (f := fun b l => supd .init l b (fun x => x.toFault f)) (fun b => decide (k = b)) (g := fun p => (true, p.2))
    (fun b l => by
      rw [sget_supd]
      by_cases e : k = b
      · subst e; simp only [decide_true, if_true, Bias.live_toFault]; rfl
      · simp [e]) (fun _ => rfl) (List.range 64) l
  rw [if_pos (any_range_eq h), Prod.mk.injEq] at e
  exact e

end Sys2Proof.Machine
end

section
/-!
What entry to SAFE and the containment of a cluster end, keep and record (R57, R127 to R134, R495).
-/
namespace Sys2Proof.Machine

/-! ## Entry to SAFE (R57, R131 to R133, R495) -/

theorem State.outline_dropCodes (s : State) (f : Nat) (p : Nat → Bool) : (s.dropCodes f p).outline = s.outline := rfl

theorem State.outline_endStretch (s : State) : s.endStretch.outline = s.outline := by
  unfold State.endStretch
  split <;> rfl

/-- The state with the work of all clusters ended at the boundary, and the held Pauli entries discarded. -/
def State.workEnded (s : State) : State := s.faultMarkers.dropPauli.stopClusters

/-- What SAFE makes of a state whose work has ended; its bias outputs become `l`. -/
def State.madeSafe (s : State) (l : Sparse Bias) : State :=
  { s with mode := .safe, commits := [], dwrites := [], biases := l, power := { s.power with converters := true } }

theorem State.outline_madeSafe {s w : State} (h : s.outline = ({ w with commits := [] } : State).outline) (l : Sparse Bias)
    (m : Modes) :
    ({ s.endStretch with
      mode := .safe, dwrites := [], biases := l, modes := m, power := { s.power with converters := true } } : State).outline
      = (w.madeSafe l).outline := by
  have hp : s.power = w.power := (State.view_of_part State.outline (·.power) (fun _ => rfl) h :)
  rw [hp]
  exact congrArg (fun u : State => { u with
    mode := .safe, dwrites := [], biases := l, power := { w.power with converters := true } }) (s.outline_endStretch.trans h)

/-- The work ended and abandoned, SAFE is made, its cause and its frame are set, and a record is formed. -/
theorem State.outline_safeEntry {s : State} (h : s.mode ≠ .safe) (cause : Nat) (detail : List Byte) :
    ∃ (u : State) (boot : Nat),
      (s.safeEntry cause detail).outline
        = (((u.setFld 0x40 15 8 cause).setFld 0x40 5 5 boot).setReg64 0x68 s.frame).outline
      ∧ ∃ f, u.outline = (s.workEnded.madeSafe (faultBiases s.workEnded.biases f)).outline := by
  have habort (w : State) (n : Nat) (p : Nat → Bool) (b : Bool) :
      ((if b then w.endSleep else w).abortAll.dropCodes n p).outline = ({ w with commits := [] } : State).outline := by
    rw [State.outline_dropCodes, State.outline_abortAll]
    cases b <;> rfl
  have hbias (w : State) (n : Nat) (p : Nat → Bool) (b : Bool) (f : Nat) :
      (List.range 64).foldl (fun l k => supd .init l k (fun x => x.toFault f))
        ((if b then w.endSleep else w).abortAll.dropCodes n p).biases = faultBiases w.biases f := by
    have e : ((if b then w.endSleep else w).abortAll.dropCodes n p).biases = w.biases :=
      (State.view_of_part State.outline (·.biases) (fun _ => rfl) (habort w n p b) :)
    rw [e, faultBiases, forEach]
  unfold State.safeEntry
  rw [if_neg h]
  refine ⟨_, _, State.outline_record .., ?_⟩
  rw [← State.stopClusters, ← State.workEnded, hbias]
  exact ⟨_, State.outline_madeSafe (habort s.workEnded _ _ _) _ _⟩

/-! ## What entry to SAFE ends, keeps and records -/

/-- The outline without its registers. -/
def State.bare (s : State) : State := { s.outline with regs := [] }

theorem State.bare_of_outline {s t : State} (h : t.outline = s.outline) : t.bare = s.bare :=
  congrArg (fun u : State => { u with regs := [] }) h

theorem State.bare_setFld (s : State) (a hi lo v : Nat) : (s.setFld a hi lo v).bare = s.bare := rfl

theorem State.bare_setRegN (s : State) (a v : Nat) : (s.setRegN a v).bare = s.bare := rfl

theorem State.bare_setReg64 (s : State) (a v : Nat) : (s.setReg64 a v).bare = s.bare := by
  rw [State.setReg64, State.bare_setRegN, State.bare_setRegN]

theorem State.reg_madeSafe (s : State) (l : Sparse Bias) (a : Nat) : (s.madeSafe l).reg a = s.reg a := rfl

/-- The work that ends is that of the units, and the held Pauli entries are gone (R133, R371). -/
theorem State.besidesUnits_workEnded (s : State) :
    s.workEnded.besidesUnits = ({ s with perc := { s.perc with held := [] } } : State).besidesUnits :=
  (State.besidesUnits_stopClusters _).trans
    (State.besidesUnits_of_outline (State.outline_dropPauli s.outline_faultMarkers))

/-- What shows neither units nor the held entries is as it was. -/
theorem State.view_workEnded {τ : Type} (view : State → τ) (hunits : ∀ u : State, view u.besidesUnits = view u)
    (hperc : ∀ (u : State) (p : Perc), view { u with perc := p } = view u) (s : State) : view s.workEnded = view s :=
  (State.view_of_part State.besidesUnits view hunits s.besidesUnits_workEnded).trans (hperc s _)

theorem State.seq_workEnded (s : State) {q : Nat} (h : q < 128) : s.workEnded.seq q = (s.seq q).halted := by
  have e : s.faultMarkers.dropPauli.seq q = s.seq q :=
    (State.view_of_part State.outline (·.seq q) (fun _ => rfl) (State.outline_dropPauli s.outline_faultMarkers) :)
  rw [State.workEnded, State.seq_stopClusters _ h, e]

theorem State.bare_safeEntry {s : State} (h : s.mode ≠ .safe) (cause : Nat) (detail : List Byte) :
    ∃ f, (s.safeEntry cause detail).bare = (s.workEnded.madeSafe (faultBiases s.workEnded.biases f)).bare := by
  obtain ⟨u, boot, ht, f, hu⟩ := State.outline_safeEntry h cause detail
  refine ⟨f, ?_⟩
  rw [State.bare_of_outline ht, State.bare_setReg64, State.bare_setFld, State.bare_setFld, State.bare_of_outline hu]

/-- The cause and the frame are set (R131). -/
theorem State.fault_safeEntry {s : State} (h : s.mode ≠ .safe) {cause : Nat} (hc : cause < 256) (detail : List Byte) :
    (s.safeEntry cause detail).fld 0x40 15 8 = cause ∧ (s.safeEntry cause detail).reg64 0x68 = s.frame % 2 ^ 64 := by
  obtain ⟨u, boot, ht, -⟩ := State.outline_safeEntry h cause detail
  have hreg {a : Nat} (ha : isReportReg a = false) := State.reg_of_outline ht ha
  constructor
  · have e := u.fld_setFld 0x40 cause (show 8 ≤ 15 by decide) (by decide)
    rw [Nat.mod_eq_of_lt (show cause < 2 ^ (15 + 1 - 8) from hc),
      ← State.fld_setFld_above _ 0x40 boot (Nat.le_refl 5) (show 5 < 8 by decide) (by decide)] at e
    rw [State.fld, State.regN, hreg (by decide), State.reg_setReg64_other _ _ (by decide) (by decide)]
    exact e
  · rw [← State.reg64_setReg64, State.reg64, State.reg64, State.regN, State.regN, hreg (by decide), hreg (by decide)]
    rfl

/-- The Pauli frame stands as it stood at the boundary (R133). -/
theorem State.pauli_safeEntry {s : State} (h : s.mode ≠ .safe) (cause : Nat) (detail : List Byte) {i : Nat} (hi : i < 64) :
    (s.safeEntry cause detail).reg (0x60000100 + 4 * i) = s.reg (0x60000100 + 4 * i) := by
  obtain ⟨u, boot, ht, f, hu⟩ := State.outline_safeEntry h cause detail
  have hp := isReportReg_pauli hi
  rw [State.reg_of_outline ht hp, State.reg_setReg64_other _ _ (by omega) (by omega),
    State.reg_setFld_other _ _ _ _ (by omega), State.reg_setFld_other _ _ _ _ (by omega), State.reg_of_outline hu hp,
    State.reg_madeSafe]
  exact State.view_workEnded (·.reg _) (fun u => u.reg_outline hp) (fun _ _ => rfl) s

/-- What a state reads as that is one with what SAFE is made of, but for registers and reports. -/
theorem State.readings_madeSafe {t w : State} {l : Sparse Bias} (h : t.bare = (w.madeSafe l).bare) :
    t.mode = .safe ∧ t.commits = [] ∧ t.dwrites = [] ∧ t.biases = l ∧ t.power.aon = w.power.aon ∧ t.frame = w.frame
      ∧ t.mem = w.mem ∧ t.dbits = w.dbits ∧ t.perc = w.perc ∧ (∀ q, t.seq q = w.seq q) ∧ (∀ k, t.tq k = w.tq k)
      ∧ (∀ c, t.me c = w.me c) ∧ ∀ c, t.rd c = w.rd c := by
  have r {τ : Type} (view : State → τ) (hview : ∀ u : State, view u.bare = view u) : view t = view (w.madeSafe l) :=
    State.view_of_part State.bare view hview h
  exact ⟨r (·.mode) fun _ => rfl, r (·.commits) fun _ => rfl, r (·.dwrites) fun _ => rfl, r (·.biases) fun _ => rfl,
    r (·.power.aon) fun _ => rfl, r (·.frame) fun _ => rfl, r (·.mem) fun _ => rfl, r (·.dbits) fun _ => rfl,
    r (·.perc) fun _ => rfl, fun q => r (·.seq q) fun _ => rfl, fun k => r (·.tq k) fun _ => rfl,
    fun c => r (·.me c) fun _ => rfl, fun c => r (·.rd c) fun _ => rfl⟩

/-- What entry to SAFE ends. -/
theorem State.ends_safeEntry {s : State} (h : s.mode ≠ .safe) (cause : Nat) (detail : List Byte) :
    let t := s.safeEntry cause detail
    t.perc.held = [] ∧ t.dwrites = [] ∧ t.commits = [] ∧ (∀ q, q < 128 → t.seq q = (s.seq q).halted)
      ∧ (∀ c k, c < 16 → k < 228 → t.tq (tkey c k) = .init)
      ∧ (∀ c, c < 16 → (t.me c).run = none ∧ (t.rd c).state = 0) := by
  intro t
  obtain ⟨f, ht⟩ := State.bare_safeEntry h cause detail
  obtain ⟨-, hcommits, hwrites, -, -, -, -, -, hperc, hseqs, htqs, hmes, hrds⟩ := State.readings_madeSafe ht
  have hheld : s.workEnded.perc.held = [] :=
    State.view_of_part State.besidesUnits (·.perc.held) (fun _ => rfl) s.besidesUnits_workEnded
  refine ⟨(congrArg Perc.held hperc).trans hheld, hwrites, hcommits, fun q hq => ?_, fun c k hc hk => ?_,
    fun c hc => ⟨?_, ?_⟩⟩
  · exact (hseqs q).trans (s.seq_workEnded hq)
  · exact (htqs _).trans (State.tq_stopClusters _ (by rw [tkey]; omega))
  · exact congrArg Me.run ((hmes c).trans (State.me_stopClusters _ hc))
  · exact congrArg Rdsp.state ((hrds c).trans (State.rd_stopClusters _ hc))

/-- What entry to SAFE keeps, and where it leads. -/
theorem State.keeps_safeEntry {s : State} (h : s.mode ≠ .safe) (cause : Nat) (detail : List Byte) :
    let t := s.safeEntry cause detail
    t.mode = .safe ∧ t.mem = s.mem ∧ t.dbits = s.dbits ∧ t.frame = s.frame ∧ t.power.aon = s.power.aon
      ∧ ∀ k, k < 64 → (t.bias k).fault = true ∧ (t.bias k).live = (s.bias k).live := by
  intro t
  obtain ⟨f, ht⟩ := State.bare_safeEntry h cause detail
  obtain ⟨hmode, -, -, hbiases, haon, hframe, hmem, hdbits, -⟩ := State.readings_madeSafe ht
  have hw {τ : Type} (view : State → τ) (hunits : ∀ u : State, view u.besidesUnits = view u)
      (hp : ∀ (u : State) (p : Perc), view { u with perc := p } = view u) := State.view_workEnded view hunits hp s
  refine ⟨hmode, hmem.trans (hw (·.mem) (fun _ => rfl) fun _ _ => rfl),
    hdbits.trans (hw (·.dbits) (fun _ => rfl) fun _ _ => rfl), hframe.trans (hw (·.frame) (fun _ => rfl) fun _ _ => rfl),
    haon.trans (hw (·.power.aon) (fun _ => rfl) fun _ _ => rfl), fun k hk => ?_⟩
  rw [State.bias, hbiases, ← hw (·.bias k) (fun _ => rfl) fun _ _ => rfl]
  exact sget_faultBiases s.workEnded.biases f hk

theorem State.mode_safeEntry (s : State) (cause : Nat) (detail : List Byte) : (s.safeEntry cause detail).mode = .safe := by
  by_cases h : s.mode = .safe
  · have e : s.dropRecover.mode = s.mode := State.view_of_part State.outline (·.mode) (fun _ => rfl) s.outline_dropRecover
    rw [State.safeEntry, if_pos h, State.mode_record, e, h]
  · exact (State.keeps_safeEntry h cause detail).1

theorem State.faultN_safe {s : State} (hm : s.mode = .safe) (ha : s.power.aon = true) : s.faultN = .low := by
  simp [State.faultN, hm, ha]

/-! ## A contained cluster (R129) -/

/-- The outline without registers, commits and D-bits, which containment changes beside the cluster's units. -/
def State.besidesFault (s : State) : State := { s.bare with commits := [], dwrites := [], dbits := [], dlog := [] }

theorem State.besidesFault_of_outline {s t : State} (h : t.outline = s.outline) : t.besidesFault = s.besidesFault :=
  congrArg (fun u : State => { u with regs := [], commits := [], dwrites := [], dbits := [], dlog := [] }) h

theorem State.besidesFault_raise (s : State) (a b : Nat) : (s.raise a b).besidesFault = s.besidesFault := rfl

theorem State.besidesFault_waits (s : State) (l : List PendingCommit) (w : List DWrite) :
    ({ s with commits := l, dwrites := w } : State).besidesFault = s.besidesFault := rfl

theorem State.besidesFault_clearDbit (i : Nat) (s : State) : (s.clearDbit i).besidesFault = s.besidesFault := by
  unfold State.clearDbit State.putDbit
  split <;> rfl

/-- Beside these, containment is the end of the cluster's work. -/
theorem State.besidesFault_contain (s : State) (c cause : Nat) :
    (s.contain c cause).besidesFault = (s.stopCluster c).besidesFault := by
  unfold State.contain
  simp only
  rw [State.besidesFault_of_outline ((State.outline_emit ..).trans (State.outline_record ..)), State.besidesFault_raise,
    forEach_keeps State.besidesFault State.besidesFault_clearDbit, State.besidesFault_waits]
  exact State.besidesFault_of_outline ((State.outline_modCl ..).trans (State.outline_dropCodes ..))

theorem State.contained_contain (s : State) {c : Nat} (hc : c < 16) (cause : Nat) : (s.contain c cause).contained c = true := by
  obtain ⟨u, hu⟩ : ∃ u : State, (s.contain c cause).outline = (u.raise 0x64 c).outline := by
    unfold State.contain
    exact ⟨_, (State.outline_emit ..).trans (State.outline_record ..)⟩
  rw [State.contained, State.regN, State.reg_of_outline hu (by decide)]
  exact u.bitOf_raise 0x64 (by omega)

/-- What containment ends, and what it leaves alone. -/
theorem State.effect_contain (s : State) {c : Nat} (hc : c < 16) (cause : Nat) :
    let t := s.contain c cause
    t.mode = s.mode ∧ t.contained c = true ∧ (∀ q, q < 128 → q / 8 = c → t.seq q = (s.seq q).halted)
      ∧ (∀ q, q < 128 → q / 8 ≠ c → t.seq q = s.seq q) ∧ t.mem = s.mem
      ∧ (∀ k, k / 256 ≠ c → t.tq k = s.tq k) ∧ (∀ k, t.bias k = s.bias k) := by
  intro t
  have hstop {τ : Type} (view : State → τ) (hview : ∀ u : State, view u.besidesFault = view u) :
      view t = view (s.stopCluster c) := State.view_of_part State.besidesFault view hview (s.besidesFault_contain c cause)
  have hrest {τ : Type} (view : State → τ) (hview : ∀ u : State, view u.besidesUnits = view u) :
      view (s.stopCluster c) = view s := State.view_of_part State.besidesUnits view hview (s.besidesUnits_stopCluster c)
  have hseq (q : Nat) := (hstop (·.seq q) fun _ => rfl).trans (s.seq_stopCluster c q)
  have htq (k : Nat) := (hstop (·.tq k) fun _ => rfl).trans (s.tq_stopCluster c k)
  refine ⟨(hstop (·.mode) fun _ => rfl).trans (hrest (·.mode) fun _ => rfl), s.contained_contain hc cause,
    fun q _ h => ?_, fun q _ h => ?_, (hstop (·.mem) fun _ => rfl).trans (hrest (·.mem) fun _ => rfl), fun k h => ?_,
    fun k => (hstop (·.bias k) fun _ => rfl).trans (hrest (·.bias k) fun _ => rfl)⟩
  · rw [hseq, if_pos (decide_eq_true h)]
  · rw [hseq, if_neg (by simpa using h)]
  · rw [htq, if_neg (by simpa using h)]

/-! ## Device faults and cluster faults (R127 to R134) -/

theorem State.undo_none {s : State} (h : s.base = none) : s.undo id = s := by rw [State.undo, h]

theorem State.undo_some {s : State} {x : Body} (h : s.base = some x) :
    s.undo id = { toBody := { x with phase := 1, frame := s.frame }, pending := s.pending, base := none } := by
  rw [State.undo, h]; rfl

/-- The frame keeps its number where it is worked again. -/
theorem State.frame_undo (s : State) : (s.undo id).frame = s.frame := by
  cases h : s.base with
  | none => rw [State.undo_none h]
  | some x => rw [State.undo_some h]

theorem State.enterSafe_of_safe {s : State} (h : s.mode = .safe) (cause : Nat) (detail : List Byte) :
    s.enterSafe cause detail = s.record 0x05 (leBytes 1 cause ++ leBytes 8 s.frame) := by
  rw [State.enterSafe, State.deviceFault, if_pos h]

theorem State.enterSafe_of_running {s : State} (hs : s.mode ≠ .safe) (hr : s.mode ≠ .reset) (cause : Nat)
    (detail : List Byte) : s.enterSafe cause detail = (s.undo id).safeEntry cause detail := by
  rw [State.enterSafe, State.deviceFault, if_neg hs, if_neg hr]

theorem State.clusterFault_of_safe {s : State} (h : s.mode = .safe) (c cause : Nat) :
    s.clusterFault c cause = s.record 0x05 (leBytes 1 cause ++ leBytes 8 s.frame) := by
  rw [State.clusterFault, State.clusterFaultAfter, if_pos (.inl h), State.deviceFault, if_pos h]

/-- A fault of a cluster that policy contains works the frame again with that cluster contained (R129). -/
theorem State.clusterFault_contains {s : State} {c : Nat} (hm : s.mode = .run) (hp : bitOf (s.fld 0x60 15 0) c = true)
    (hc : s.contained c = false) (cause : Nat) : s.clusterFault c cause = (s.undo id).contain c cause := by
  rw [State.clusterFault, State.clusterFaultAfter, if_neg (by simp [hm, hp]), if_neg (by simp [hc])]

/-- Settles O35: a device fault is an undo and an entry to SAFE, whose effects are those of the lemmas above; in SAFE it
is a record; and a contained cluster's fault is an undo and a containment. -/
theorem safeEntry : Obligations.SafeEntry := by
  unfold Obligations.SafeEntry
  intro s cause detail hcause
  refine ⟨⟨State.undo_none, fun x hx => ?_⟩, fun hs hr => ?_, fun hs => ?_, fun c hm hp hc => ?_⟩
  · rw [State.undo_some hx]
    exact ⟨rfl, rfl⟩
  · rw [State.enterSafe_of_running hs hr]
    refine ⟨State.mode_safeEntry .., fun hb => ?_⟩
    obtain ⟨hfault, hframe⟩ := State.fault_safeEntry hb hcause detail
    obtain ⟨hheld, hwrites, hcommits, hseq, htq, hunits⟩ := State.ends_safeEntry hb cause detail
    obtain ⟨hmode, hmem, hdbits, hf, haon, hbias⟩ := State.keeps_safeEntry hb cause detail
    rw [State.frame_undo] at hframe hf
    exact ⟨hfault, hframe, hheld, hwrites, hcommits, hseq, htq, hunits, hmem, hdbits,
      fun i hi => State.pauli_safeEntry hb cause detail hi, hbias, hf, fun ha => State.faultN_safe hmode (haon.trans ha)⟩
  · exact ⟨State.enterSafe_of_safe hs .., (State.mode_record ..).trans hs, fun a ha => State.reg_record _ _ _ ha,
      State.host_record .., fun c => State.clusterFault_of_safe hs c cause⟩
  · rw [State.clusterFault_contains hm hp hc]
    exact (s.undo id).effect_contain c.isLt cause

end Sys2Proof.Machine
end

section
/-!
SUPPORT. What an instruction finds when it issues, and what a condition, a stack error and a waiting branch do to their
sequencer and leave alone; then the statements on stack errors and waiting branches.
-/
namespace Sys2Proof.Machine

section Sequencers

variable {s t : State} {q : Nat} {y : Seq}

theorem State.frame_of_seqIs (h : s.seqIs t q y) : t.frame = s.frame := by rw [h.1]

theorem State.wait_of_seqIs {w : SeqWait} (h : s.seqIs t q y) (hw : y.wait = w) : (t.seq q).wait = w := by
  rw [h.2.1, hw]

/-! ## Issue -/

/-- The state in which an instruction of sequencer `q` that issues acts (R140, R179). -/
def State.issued (s : State) (q : Nat) : State :=
  s.modSeq q (fun x => { x with ldsReg := none, state := 1, wait := .none })

theorem State.issue_eq_issued {reads : List Nat} (h : s.issues q reads) (f : State → State) :
    s.issue q reads f = f (s.issued q) := State.issue_of_issues h f

@[simp] theorem State.seq_issued (s : State) (q : Nat) :
    (s.issued q).seq q = { s.seq q with ldsReg := none, state := 1, wait := .none } := State.seq_modSeq ..

theorem State.seqIs_issued (s : State) (q : Nat) :
    s.seqIs (s.issued q) q { s.seq q with ldsReg := none, state := 1, wait := .none } :=
  State.seqIs_modSeq (s.seqIs_refl q) _

/-! ## Conditions and stack errors beside a change of one sequencer -/

theorem State.seqIs_raise (h : s.seqIs t q y) (a b : Nat) : (s.raise a b).seqIs (t.raise a b) q y := by
  obtain ⟨hrest, hq, hother⟩ := h
  exact ⟨by rw [hrest]; rfl, hq, hother⟩

/-- A flag raised beside a change of one sequencer changes registers alone. -/
theorem State.of_seqIs_raise {a b : Nat} (h : (s.raise a b).seqIs t q y) :
    t = { s with seqs := t.seqs, regs := (s.raise a b).regs } ∧ t.seq q = y ∧ ∀ j, j ≠ q → t.seq j = s.seq j := h

/-- A condition changes registers and its cluster's lateness record alone (R161, R162). -/
theorem State.seqCond_eq (s : State) (k : SeqCond) (q target frame : Nat) :
    s.seqCond k q target frame =
      { s with regs := (s.seqCond k q target frame).regs, clusters := (s.seqCond k q target frame).clusters } := by
  unfold State.seqCond
  cases k.counter <;> rfl

theorem State.seq_seqCond (s : State) (k : SeqCond) (q target frame j : Nat) :
    (s.seqCond k q target frame).seq j = s.seq j := by
  rw [State.seqCond_eq]; rfl

theorem State.seqCond_seqs (s : State) (l : Sparse Seq) (k : SeqCond) (q target frame : Nat) :
    ({ s with seqs := l } : State).seqCond k q target frame = { s.seqCond k q target frame with seqs := l } := by
  unfold State.seqCond
  cases k.counter <;> rfl

theorem State.seqIs_seqCond (h : s.seqIs t q y) (k : SeqCond) (n target frame : Nat) :
    (s.seqCond k n target frame).seqIs (t.seqCond k n target frame) q y := by
  obtain ⟨hrest, hq, hother⟩ := h
  refine ⟨?_, by rw [State.seq_seqCond, hq], fun j hj => by rw [State.seq_seqCond, State.seq_seqCond, hother j hj]⟩
  rw [hrest, State.seqCond_seqs]

/-- A condition beside a change of one sequencer leaves the others as they were. -/
theorem State.of_seqIs_seqCond {k : SeqCond} {n target frame : Nat} (h : (s.seqCond k n target frame).seqIs t q y) :
    t = { s.seqCond k n target frame with seqs := t.seqs } ∧ t.seq q = y ∧ ∀ j, j ≠ q → t.seq j = s.seq j := by
  obtain ⟨hrest, hq, hother⟩ := h
  exact ⟨hrest, hq, fun j hj => (hother j hj).trans (s.seq_seqCond ..)⟩

/-- A stack error is the flag and a halted sequencer (R146). -/
theorem State.seqIs_stackErr (h : s.seqIs t q y) :
    (s.raise (aSeq q 8) 15).seqIs (t.stackErr q) q { y with state := 6, wait := .none } :=
  State.seqIs_modSeq (State.seqIs_raise h _ _) _

/-! ## Stack errors (R146, R183) -/

theorem exec_call_full {q : Fin 128} {gs : Fin 32} {r : Bool} (h : s.issues q (if r then [gs.val] else []))
    (hfull : 8 ≤ (s.seq q).stack.length) (addr : BitVec 16) :
    exec (.call q gs r addr) s = .next ((s.issued q).stackErr q) := by
  have hs : 8 ≤ ((s.issued q).seq q).stack.length := by rwa [State.seq_issued]
  change execCall q gs r addr s = _
  rw [execCall, State.issue_eq_issued h, if_pos hs]

theorem exec_loop_full {q : Fin 128} {gs : Fin 32} {r : Bool} {cnt : BitVec 16}
    (h : s.issues q (if r then [gs.val] else [])) (hcount : (if r then ((s.seq q).get gs).toNat else cnt.toNat) ≠ 0)
    (hfull : 8 ≤ (s.seq q).stack.length) (addr : BitVec 16) :
    exec (.loop q gs r cnt addr) s = .next ((s.issued q).stackErr q) := by
  have hs : 8 ≤ ((s.issued q).seq q).stack.length := by rwa [State.seq_issued]
  have hn : (if r then (((s.issued q).seq q).get gs).toNat else cnt.toNat) ≠ 0 := by rwa [State.seq_issued]
  change execLoop q gs r cnt addr s = _
  rw [execLoop, State.issue_eq_issued h]
  exact congrArg _ ((if_neg hn).trans (if_pos hs))

theorem exec_ret_no_call {q : Fin 128} (h : s.issues q [])
    (htop : ∀ back rest, (s.seq q).stack ≠ .call back :: rest) :
    exec (.ret q) s = .next ((s.issued q).stackErr q) := by
  change execRet q s = _
  rw [execRet, State.issue_eq_issued h]
  split
  · next back rest hs =>
    rw [State.seq_issued] at hs
    exact absurd hs (htop back rest)
  · rfl

theorem exec_loopE_no_loop {q : Fin 128} (h : s.issues q [])
    (htop : ∀ body closing n rest, (s.seq q).stack ≠ .loop body closing n :: rest) :
    exec (.loopE q) s = .next ((s.issued q).stackErr q) := by
  change execLoopE q s = _
  rw [execLoopE, State.issue_eq_issued h]
  split
  · next body closing n rest hs =>
    rw [State.seq_issued] at hs
    exact absurd hs (htop body closing n rest)
  · rfl

end Sequencers

/-- Settles O3: each of the four cases is a stack error of the sequencer as issued, which is its flag and its halt. -/
theorem tarfigerStackErrors : Obligations.TarfigerStackErrors := by
  unfold Obligations.TarfigerStackErrors
  intro s q gs r cnt addr x reads count i hi
  have hexec : exec i s = .next ((s.issued q).stackErr q) := by
    rcases hi with ⟨rfl, h, hfull⟩ | ⟨rfl, h, hcount, hfull⟩ | ⟨rfl, h, htop⟩ | ⟨rfl, h, htop⟩
    · exact exec_call_full h hfull addr
    · exact exec_loop_full h hcount hfull addr
    · exact exec_ret_no_call h htop
    · exact exec_loopE_no_loop h htop
  exact ⟨_, hexec, State.of_seqIs_raise (State.seqIs_stackErr (s.seqIs_issued q))⟩

/-! ## Waiting branches (R164, R166, R185, R197) -/

section WaitingBranches

variable {s t : State} {q : Nat} {y : Seq} {d : Nat} {rc : Bool} {dl : Int} {branch : Option (Bool × BitVec 16)}

/-- Where a BRD or WAITD at word `pc` goes on when D-bit `d` is valid (R185, R197). -/
def State.waitTarget (s : State) (d : Nat) (branch : Option (Bool × BitVec 16)) (pc : BitVec 16) : BitVec 16 :=
  match branch with
  | some (sense, addr) => if (s.dbitSeen d).value = sense then addr else pc + 1
  | none => pc + 1

/-- A sequencer whose BRD or WAITD has resolved: it goes on at word `pc` in frame `f` (R166). -/
def Seq.resumed (x : Seq) (pc : BitVec 16) (f : Nat) : Seq :=
  { x with state := 1, wait := .none, nextIssue := f, pc := pc }

/-- A D-bit reads the same whatever a sequencer does. -/
theorem State.dbitReady_of_seqIs (h : s.seqIs t q y) : t.dbitReady d rc = s.dbitReady d rc := by
  rw [h.1]; rfl

theorem State.waitTarget_of_seqIs (h : s.seqIs t q y) (pc : BitVec 16) :
    t.waitTarget d branch pc = s.waitTarget d branch pc := by
  rw [h.1]; rfl

/-- On a valid D-bit the wait resolves to its target (R164, R166). -/
theorem State.evalWait_valid (hw : (s.seq q).wait = .dbit d rc dl branch) (hv : s.dbitReady d rc = true) :
    s.evalWait q = s.modSeq q (fun x => x.resumed (s.waitTarget d branch x.pc) (s.frame + 2)) := by
  simp only [State.evalWait, hw, hv, Bool.true_or, Bool.true_and, if_true]
  cases branch with
  | none => rfl
  | some b =>
    obtain ⟨sense, addr⟩ := b
    by_cases hb : (s.dbitSeen d).value = sense <;> simp [hb, State.waitTarget, Seq.resumed]

/-- At its deadline the wait resolves with `LATE_DBIT`, and no branch is taken (R166). -/
theorem State.evalWait_late (hw : (s.seq q).wait = .dbit d rc dl branch) (hv : s.dbitReady d rc = false)
    (hl : dl ≤ s.frame) :
    s.evalWait q = (s.seqCond .lateDbit q noTarget noFrame).modSeq q
      (fun x => x.resumed (x.pc + 1) (s.frame + 2)) := by
  simp only [State.evalWait, hw, hv, decide_eq_true hl]
  cases branch <;> rfl

/-- Before its deadline, without a valid D-bit, the wait goes on (R166). -/
theorem State.evalWait_early (hw : (s.seq q).wait = .dbit d rc dl branch) (hv : s.dbitReady d rc = false)
    (hl : (s.frame : Int) < dl) : s.evalWait q = s.modSeq q (fun x => { x with state := 4 }) := by
  simp [State.evalWait, hw, hv, Int.not_le.mpr hl]

theorem State.seqIs_evalWait_valid (h : s.seqIs t q y) (hw : y.wait = .dbit d rc dl branch)
    (hv : s.dbitReady d rc = true) :
    s.seqIs (t.evalWait q) q (y.resumed (s.waitTarget d branch y.pc) (s.frame + 2)) := by
  rw [State.evalWait_valid (State.wait_of_seqIs h hw) ((State.dbitReady_of_seqIs h).trans hv),
    State.frame_of_seqIs h, ← State.waitTarget_of_seqIs h]
  exact State.seqIs_modSeq h _

theorem State.seqIs_evalWait_late (h : s.seqIs t q y) (hw : y.wait = .dbit d rc dl branch)
    (hv : s.dbitReady d rc = false) (hl : dl ≤ s.frame) :
    (s.seqCond .lateDbit q noTarget noFrame).seqIs (t.evalWait q) q (y.resumed (y.pc + 1) (s.frame + 2)) := by
  rw [State.evalWait_late (State.wait_of_seqIs h hw) ((State.dbitReady_of_seqIs h).trans hv)
    (by rwa [State.frame_of_seqIs h]), State.frame_of_seqIs h]
  exact State.seqIs_modSeq (State.seqIs_seqCond h _ _ _ _) _

theorem State.seqIs_evalWait_early (h : s.seqIs t q y) (hw : y.wait = .dbit d rc dl branch)
    (hv : s.dbitReady d rc = false) (hl : (s.frame : Int) < dl) :
    s.seqIs (t.evalWait q) q { y with state := 4 } := by
  rw [State.evalWait_early (State.wait_of_seqIs h hw) ((State.dbitReady_of_seqIs h).trans hv)
    (by rwa [State.frame_of_seqIs h])]
  exact State.seqIs_modSeq h _

/-- The sequencer as its BRD or WAITD leaves it to wait from its issue on, until TL − 26 (R166). -/
def State.waitBegun (s : State) (q d : Nat) (rc : Bool) (branch : Option (Bool × BitVec 16)) : State :=
  (s.issued q).modSeq q (fun x => { x with wait := .dbit d rc ((x.tl.toNat : Int) - 26) branch })

theorem State.seqIs_waitBegun (s : State) (q d : Nat) (rc : Bool) (branch : Option (Bool × BitVec 16)) :
    s.seqIs (s.waitBegun q d rc branch) q { s.seq q with
      ldsReg := none, state := 1, wait := .dbit d rc (((s.seq q).tl.toNat : Int) - 26) branch } :=
  State.seqIs_modSeq (s.seqIs_issued q) _

theorem exec_brd_of_issues {q : Fin 128} (h : s.issues q []) (d : Fin 8192) (sense rc : Bool) (addr : BitVec 16) :
    exec (.brd q d sense rc addr) s = .next ((s.waitBegun q d rc (some (sense, addr))).evalWait q) :=
  congrArg _ (State.issue_eq_issued h _)

theorem exec_waitd_of_issues {q : Fin 128} (h : s.issues q []) (d : Fin 8192) (rc : Bool) :
    exec (.waitd q d rc) s = .next ((s.waitBegun q d rc none).evalWait q) :=
  congrArg _ (State.issue_eq_issued h _)

theorem exec_brdResolution_of_waiting {q : Fin 128} (hm : s.mode = .run) (h4 : (s.seq q).state = 4) :
    exec (.brdResolution q) s = .next (s.evalWait q) :=
  congrArg _ (if_pos ⟨hm, h4⟩)

end WaitingBranches

/-- Settles O5: an issuing BRD or WAITD begins a wait and evaluates it, and so does each later frame; the evaluation's
three outcomes are those of `State.evalWait`. -/
theorem tarfigerWaitingBranches : Obligations.TarfigerWaitingBranches := by
  unfold Obligations.TarfigerWaitingBranches
  intro s q d sense rc addr x dl valid goesTo i branch hi
  refine ⟨fun h => ?_, fun hm h4 deadline hw => ?_⟩
  · have hexec : exec i s = .next ((s.waitBegun q d rc branch).evalWait q) := by
      rcases hi with ⟨rfl, rfl⟩ | ⟨rfl, rfl⟩
      · exact exec_brd_of_issues h d sense rc addr
      · exact exec_waitd_of_issues h d rc
    have hbegun := s.seqIs_waitBegun q d rc branch
    exact ⟨fun hv => ⟨_, hexec, State.seqIs_evalWait_valid hbegun rfl hv⟩,
      fun hv hl => ⟨_, hexec, State.of_seqIs_seqCond (State.seqIs_evalWait_late hbegun rfl hv hl)⟩,
      fun hv hl => ⟨_, hexec, State.seqIs_evalWait_early hbegun rfl hv hl⟩⟩
  · have hexec := exec_brdResolution_of_waiting hm h4
    have hself := s.seqIs_refl q
    refine ⟨fun hv => ⟨_, hexec, State.seqIs_evalWait_valid hself hw hv⟩,
      fun hv hl => ⟨_, hexec, State.of_seqIs_seqCond (State.seqIs_evalWait_late hself hw hv hl)⟩,
      fun hv hl => ⟨_, hexec, ?_⟩⟩
    have hstays : { x with state := 4 } = x := by rw [← h4]
    exact hstays ▸ State.seqIs_evalWait_early hself hw hv hl

end Sys2Proof.Machine
end

section
/-!
SUPPORT. What a change of one event queue and a condition leave alone, and the statement on the acceptance of events.
-/
namespace Sys2Proof.Machine

section Queues

variable {s t : State} {k : Nat} {y : TQueue}

/-- Nothing has changed but queue `k`, which now is `y`. -/
def State.tqIs (s t : State) (k : Nat) (y : TQueue) : Prop :=
  t = { s with tqueues := t.tqueues } ∧ t.tq k = y ∧ ∀ j, j ≠ k → t.tq j = s.tq j

theorem State.tqIs_refl (s : State) (k : Nat) : s.tqIs s k (s.tq k) := ⟨rfl, rfl, fun _ _ => rfl⟩

theorem State.tqIs_modTq (h : s.tqIs t k y) (f : TQueue → TQueue) : s.tqIs (t.modTq k f) k (f y) := by
  obtain ⟨hrest, hk, hother⟩ := h
  exact ⟨by rw [hrest]; rfl, by rw [State.tq_modTq, hk], fun j hj => by rw [State.tq_modTq_other _ _ hj, hother j hj]⟩

theorem State.tq_seqCond (s : State) (c : SeqCond) (q target frame j : Nat) :
    (s.seqCond c q target frame).tq j = s.tq j := by
  rw [State.seqCond_eq]; rfl

theorem State.seqCond_tqueues (s : State) (l : Sparse TQueue) (c : SeqCond) (q target frame : Nat) :
    ({ s with tqueues := l } : State).seqCond c q target frame = { s.seqCond c q target frame with tqueues := l } := by
  unfold State.seqCond
  cases c.counter <;> rfl

/-- A condition met beside a change of one queue is the condition and that change. -/
theorem State.seqCond_of_tqIs (h : s.tqIs t k y) (c : SeqCond) (q target frame : Nat) :
    t.seqCond c q target frame = { s.seqCond c q target frame with tqueues := (t.seqCond c q target frame).tqueues }
      ∧ (t.seqCond c q target frame).tq k = y
      ∧ ∀ j, j ≠ k → (t.seqCond c q target frame).tq j = s.tq j := by
  obtain ⟨hrest, hk, hother⟩ := h
  refine ⟨?_, (t.tq_seqCond ..).trans hk, fun j hj => (t.tq_seqCond ..).trans (hother j hj)⟩
  rw [hrest, State.seqCond_tqueues]

/-- What breaks the order of a queue (R156). -/
theorem TQueue.conflicts_iff (q : TQueue) (e : Ev) : q.conflicts e = true ↔
    ∃ x ∈ q.held, e.t < x.t ∨ (e.kind.isPlay = true ∧ x.kind.isPlay = true ∧ x.t = e.t) := by
  simp [TQueue.conflicts, and_assoc]

/-! ## Acceptance (R154, R156, R160) -/

/-- The state once the first event on its way to queue `k` is taken off its way, with `rest` behind it. -/
def State.arrived (s : State) (k : Nat) (rest : List Ev) : State := s.modTq k (fun q => { q with flight := rest })

theorem State.tqIs_arrived (s : State) (k : Nat) (rest : List Ev) :
    s.tqIs (s.arrived k rest) k ⟨rest, (s.tq k).held⟩ := State.tqIs_modTq (s.tqIs_refl k) _

variable {c : Fin 16} {tgt : Fin 228} {e : Ev} {rest : List Ev} (hf : (s.tq (tkey c tgt)).flight = e :: rest)
include hf

theorem exec_eventAccept_travelling (h : s.frame < e.issue + 4) : exec (.eventAccept c tgt) s = .next s := by
  change execEventAccept c tgt s = _
  simp only [execEventAccept, hf, if_pos h]

/-- An event that has travelled four frames is late, in conflict, or held last. -/
theorem exec_eventAccept_arrived (hr : e.issue + 4 ≤ s.frame) :
    exec (.eventAccept c tgt) s = .next (
      let u := s.arrived (tkey c tgt) rest
      if e.t < e.issue + 24 then u.lateEvent c tgt e
      else if (s.tq (tkey c tgt)).conflicts e then u.seqCond .stampConflict e.seq tgt e.t
      else u.modTq (tkey c tgt) (fun q => { q with held := q.held ++ [e] })) := by
  change execEventAccept c tgt s = _
  simp only [execEventAccept, hf, if_neg (Nat.not_lt.mpr hr), State.tq_modTq]
  rfl

end Queues

/-- Settles O14: an event that has arrived is taken off its way, and the branch of `exec_eventAccept_arrived` that its
lead and the queue's order choose says what becomes of it. -/
theorem eventAcceptance : Obligations.EventAcceptance := by
  unfold Obligations.EventAcceptance
  intro s c tgt e rest k hf conflict
  have hconflict : (s.tq k).conflicts e = true ↔ conflict := TQueue.conflicts_iff ..
  have harrived := s.tqIs_arrived k rest
  refine ⟨exec_eventAccept_travelling hf, fun hr hlead hno => ⟨_, exec_eventAccept_arrived hf hr, ?_⟩,
    fun hr hlead hyes => ⟨_, exec_eventAccept_arrived hf hr, ?_⟩,
    fun hr hlate hrerun => ⟨_, exec_eventAccept_arrived hf hr, ?_⟩⟩
  · rw [if_neg (Nat.not_lt.mpr hlead), if_neg (hno ∘ hconflict.mp)]
    exact State.tqIs_modTq harrived _
  · rw [if_neg (Nat.not_lt.mpr hlead), if_pos (hconflict.mpr hyes)]
    exact State.seqCond_of_tqIs harrived ..
  · rw [if_pos hlate, State.lateEvent, if_neg (by simp [hrerun])]
    exact State.seqCond_of_tqIs harrived ..

end Sys2Proof.Machine
end

section
/-!
SUPPORT. What a sequencer's arithmetic, branches and notifications do to it, and the statements on them.
-/
namespace Sys2Proof.Machine

/-- A sequencer as an instruction of its own finds it at issue (R140, R179). -/
def Seq.issued (x : Seq) : Seq := { x with ldsReg := none, state := 1, wait := .none }

theorem State.seqIs_seq_issued (s : State) (q : Nat) : s.seqIs (s.issued q) q (s.seq q).issued := s.seqIs_issued q

/-! ## Arithmetic (R180) -/

section Arithmetic

variable {s : State} {q : Nat}

/-- What a row of R180 leaves of sequencer `q`: register `dest` holds `r`, the flags that are given are set, and issue
goes on at the next word one frame later. -/
def State.arithDone (s t : State) (q : Nat) (dest : Option Nat) (r : Word) (z n c : Option Bool) : Prop :=
  let x := s.seq q
  s.seqIs t q ({ x with g := (t.seq q).g, z := z.getD x.z, n := n.getD x.n, c := c.getD x.c }.onward
      (x.pc + 1) (s.frame + 1))
    ∧ ∀ k, (t.seq q).get k = if dest = some k ∧ k ≠ 0 then r else x.get k

/-- A change of registers and flags alone, made at issue, is a row's once both come out as the row says. -/
theorem State.arithDone_issue {reads : List Nat} (h : s.issues q reads) {dest : Option Nat} {r : Word}
    {z n c : Option Bool} {f : Seq → Seq}
    (hf : let x := (s.seq q).issued
      f x = { x with g := (f x).g, z := z.getD x.z, n := n.getD x.n, c := c.getD x.c })
    (hget : let x := (s.seq q).issued
      ∀ k, (f x).get k = if dest = some k ∧ k ≠ 0 then r else x.get k) :
    s.arithDone (s.issue q reads (fun s => (s.modSeq q f).goNext q)) q dest r z n c := by
  rw [State.issue_eq_issued h]
  obtain ⟨hrest, hq, hother⟩ := State.seqIs_goNext (State.seqIs_modSeq (s.seqIs_seq_issued q) f)
  refine ⟨⟨hrest, ?_, hother⟩, fun k => by rw [hq]; exact hget k⟩
  rw [hq, hf]
  rfl

theorem Seq.get_put_dest (x : Seq) (i k : Nat) (v : Word) :
    (x.put i v).get k = if some i = some k ∧ k ≠ 0 then v else x.get k := by
  simp only [Seq.get_put, Option.some.injEq, eq_comm]

theorem Seq.flags_put_eq (x : Seq) (i : Nat) (v : Word) (r : AluOut) :
    (x.put i v).flags r = { x with g := ((x.put i v).flags r).g, z := r.z, n := r.n, c := r.c.getD x.c } := by
  rw [Seq.put_eq]; rfl

/-- LI and LUI write one register and no flag. -/
theorem State.arithDone_put {reads : List Nat} (h : s.issues q reads) (i : Nat) (v : Seq → Word) :
    s.arithDone (s.issue q reads (fun s => (s.modSeq q (fun x => x.put i (v x))).goNext q)) q (some i)
      (v (s.seq q).issued) none none none :=
  State.arithDone_issue h (Seq.put_eq ..) (fun _ => Seq.get_put_dest ..)

/-- An ALU instruction writes its result to gd and sets the flags from it. -/
theorem State.arithDone_alu {o : Alu} (h : s.issues q (aluReads o)) (f : Word → Word → AluOut) :
    let r := f ((s.seq q).get o.ga) ((s.seq q).bOp o)
    s.arithDone (s.alu q o f) q (some o.gd) r.r (some r.z) (some r.n) r.c :=
  State.arithDone_issue h (Seq.flags_put_eq ..) (fun _ => Seq.get_put_dest ..)

/-- CMP sets the flags and writes no register. -/
theorem State.arithDone_flags {reads : List Nat} (h : s.issues q reads) (f : Seq → AluOut) :
    let r := f (s.seq q).issued
    s.arithDone (s.issue q reads (fun s => (s.modSeq q (fun x => x.flags (f x))).goNext q)) q none 0
      (some r.z) (some r.n) r.c :=
  State.arithDone_issue h rfl (fun _ => rfl)

/-- The product of two sign-extended halves is the exact product of the halves. -/
theorem aluMul16_eq (a b : Word) :
    aluMul16 a b = .of ((a.setWidth 16).signExtend 32 * (b.setWidth 16).signExtend 32) := by
  rw [aluMul16, BitVec.ofInt_mul]; rfl

end Arithmetic

/-- Settles O1: LI and LUI write a register, CMP sets flags, and every other row is an ALU instruction whose outcome is
that of its operation. -/
theorem tarfigerArithmetic : Obligations.TarfigerArithmetic := by
  unfold Obligations.TarfigerArithmetic
  intro s q o arith imm half gd x a b reads n up row hrow
  have alu {f : Word → Word → AluOut} (h : s.issues q reads) := State.arithDone_alu h f
  simp only [List.mem_cons, List.not_mem_nil, or_false] at hrow
  rcases hrow with rfl | rfl | rfl | rfl | rfl | rfl | rfl | rfl | rfl | rfl | rfl <;> intro h
  · exact ⟨_, rfl, State.arithDone_put h gd (fun _ => imm)⟩
  · exact ⟨_, rfl, State.arithDone_put h gd (fun x => half ++ (x.get gd).setWidth 16)⟩
  -- ADD, SUB, AND, OR, XOR, SHL and SHR are the model's operations as R180 writes them.
  iterate 7 · exact ⟨_, rfl, alu h⟩
  · have hmul := alu (f := aluMul16) h
    rw [aluMul16_eq] at hmul
    exact ⟨_, rfl, hmul⟩
  · exact ⟨_, rfl, State.arithDone_flags h (fun x => aluCmp (x.get o.ga) (x.bOp o))⟩

/-! ## Branches (R178, R181, R183 to R185) -/

section Branches

variable {s : State} {q : Fin 128} {gs : Fin 32} {r : Bool}

/-- A sequencer with its stack changed. -/
def Seq.withStack (x : Seq) (l : List StackEntry) : Seq := { x with stack := l }

/-- An instruction that changes the stack goes on as its goal says. -/
theorem State.seqIs_withStack_goto (s : State) (q : Nat) (l : Seq → List StackEntry) (pc : BitVec 16) (n : Nat) :
    s.seqIs (((s.issued q).modSeq q (fun x => x.withStack (l x))).goto q pc n) q
      (((s.seq q).withStack (l (s.seq q).issued)).onward pc (s.frame + n)) :=
  State.seqIs_goto (State.seqIs_modSeq (s.seqIs_issued q) _) pc n

theorem State.seqIs_withStack_goNext (s : State) (q : Nat) (l : Seq → List StackEntry) :
    s.seqIs (((s.issued q).modSeq q (fun x => x.withStack (l x))).goNext q) q
      (((s.seq q).withStack (l (s.seq q).issued)).onward ((s.seq q).pc + 1) (s.frame + 1)) :=
  State.seqIs_goNext (State.seqIs_modSeq (s.seqIs_issued q) _)

theorem exec_jmp_of_issues (h : s.issues q (if r then [gs.val] else [])) (addr : BitVec 16) :
    exec (.jmp q gs r addr) s = .next ((s.issued q).goto q ((s.seq q).half r gs addr) 2) := by
  change execJmp q gs r addr s = _
  rw [execJmp, State.issue_eq_issued h, State.seq_issued]
  rfl

theorem exec_call_room (h : s.issues q (if r then [gs.val] else [])) (hroom : (s.seq q).stack.length < 8)
    (addr : BitVec 16) :
    exec (.call q gs r addr) s = .next (((s.issued q).modSeq q (fun x =>
      x.withStack (.call (x.pc + 1) :: x.stack))).goto q ((s.seq q).half r gs addr) 2) := by
  have hs : ¬ 8 ≤ ((s.issued q).seq q).stack.length := by rw [State.seq_issued]; exact Nat.not_le.mpr hroom
  change execCall q gs r addr s = _
  rw [execCall, State.issue_eq_issued h, if_neg hs, State.seq_issued]
  rfl

theorem exec_loop_skip {cnt : BitVec 16} (h : s.issues q (if r then [gs.val] else []))
    (hcount : (if r then ((s.seq q).get gs).toNat else cnt.toNat) = 0) (addr : BitVec 16) :
    exec (.loop q gs r cnt addr) s = .next ((s.issued q).goto q (addr + 1) 2) := by
  have hn : (if r then (((s.issued q).seq q).get gs).toNat else cnt.toNat) = 0 := by rwa [State.seq_issued]
  change execLoop q gs r cnt addr s = _
  rw [execLoop, State.issue_eq_issued h]
  exact congrArg _ (if_pos hn)

theorem exec_loop_room {cnt : BitVec 16} (h : s.issues q (if r then [gs.val] else []))
    (hcount : (if r then ((s.seq q).get gs).toNat else cnt.toNat) ≠ 0) (hroom : (s.seq q).stack.length < 8)
    (addr : BitVec 16) :
    exec (.loop q gs r cnt addr) s = .next (((s.issued q).modSeq q (fun x =>
      x.withStack (.loop (x.pc + 1) addr (if r then ((s.seq q).get gs).toNat else cnt.toNat) :: x.stack))).goNext q) := by
  change execLoop q gs r cnt addr s = _
  rw [execLoop, State.issue_eq_issued h, State.seq_issued]
  exact congrArg _ ((if_neg hcount).trans (if_neg (Nat.not_le.mpr hroom)))

theorem exec_ret_of_call {back : BitVec 16} {rest : List StackEntry} (h : s.issues q [])
    (htop : (s.seq q).stack = .call back :: rest) :
    exec (.ret q) s = .next (((s.issued q).modSeq q (fun x => x.withStack rest)).goto q back 2) := by
  change execRet q s = _
  rw [execRet, State.issue_eq_issued h, State.seq_issued]
  simp only [htop]
  rfl

section LoopEnd

variable {body closing : BitVec 16} {n : Nat} {rest : List StackEntry} (h : s.issues q [])
  (htop : (s.seq q).stack = .loop body closing n :: rest)
include h htop

theorem exec_loopE_again (hn : 1 < n) :
    exec (.loopE q) s = .next (((s.issued q).modSeq q (fun x =>
      x.withStack (.loop body closing (n - 1) :: rest))).goto q body 1) := by
  change execLoopE q s = _
  rw [execLoopE, State.issue_eq_issued h, State.seq_issued]
  simp only [htop, if_pos hn]
  rfl

theorem exec_loopE_last (hn : n ≤ 1) :
    exec (.loopE q) s = .next (((s.issued q).modSeq q (fun x => x.withStack rest)).goNext q) := by
  change execLoopE q s = _
  rw [execLoopE, State.issue_eq_issued h, State.seq_issued]
  simp only [htop, if_neg (Nat.not_lt.mpr hn)]
  rfl

end LoopEnd

theorem exec_brg_of_issues (h : s.issues q []) (cond : Fin 16) (addr : BitVec 16) :
    let x := s.seq q
    exec (.brg q cond addr) s = .next (
      if condHolds cond.val x.z x.n x.c then (s.issued q).goto q addr 2 else (s.issued q).goNext q) := by
  change execBrg q cond addr s = _
  rw [execBrg, State.issue_eq_issued h, State.seq_issued]

/-- The conditions of R181 as they stand in its table. -/
theorem condHolds_iff (cond : Nat) (z n c : Bool) : condHolds cond z n c = true ↔
    match cond with
    | 0 => True
    | 1 => z = true
    | 2 => z = false
    | 3 => n = true
    | 4 => n = false
    | 5 => c = true
    | 6 => c = false
    | 7 => z = true ∨ n = true
    | 8 => z = false ∧ n = false
    | 9 => c = true ∨ z = true
    | 10 => c = false ∧ z = false
    | _ => False := by
  match cond with
  | 0 | 1 | 2 | 3 | 4 | 5 | 6 | 7 | 8 | 9 | 10 => simp [condHolds]
  | _ + 11 => simp [condHolds]

end Branches

/-- Settles O2: each instruction changes its stack or leaves it, and goes on at the goal that its lemma names. -/
theorem tarfigerBranches : Obligations.TarfigerBranches := by
  unfold Obligations.TarfigerBranches
  intro s q gs r cnt addr cond x reads target count
  have hgoto (pc : BitVec 16) (n : Nat) := State.seqIs_goto (s.seqIs_issued q) pc n
  refine ⟨fun h => ⟨?jmp, fun hroom => ?call, fun hcount => ?loopSkip, fun ⟨hcount, hroom⟩ => ?loop⟩,
    fun h => ⟨fun back rest htop => ?ret, fun body closing n rest htop hn => ?loopAgain,
      fun body closing n rest htop hn => ?loopLast, ?brg⟩⟩
  case jmp => exact ⟨_, exec_jmp_of_issues h addr, hgoto _ _⟩
  case call => exact ⟨_, exec_call_room h hroom addr, s.seqIs_withStack_goto ..⟩
  case loopSkip => exact ⟨_, exec_loop_skip h hcount addr, hgoto _ _⟩
  case loop => exact ⟨_, exec_loop_room h hcount hroom addr, s.seqIs_withStack_goNext ..⟩
  case ret => exact ⟨_, exec_ret_of_call h htop, s.seqIs_withStack_goto q (fun _ => rest) ..⟩
  case loopAgain =>
    exact ⟨_, exec_loopE_again h htop hn, s.seqIs_withStack_goto q (fun _ => .loop body closing (n - 1) :: rest) ..⟩
  case loopLast => exact ⟨_, exec_loopE_last h htop hn, s.seqIs_withStack_goNext q (fun _ => rest)⟩
  case brg =>
    have hcond := condHolds_iff cond.val x.z x.n x.c
    refine ⟨_, exec_brg_of_issues h cond addr, fun hyes => ?_, fun hno => ?_⟩
    · rw [if_pos (hcond.mpr hyes)]
      exact hgoto _ _
    · rw [if_neg (hno ∘ hcond.mp)]
      exact State.seqIs_goNext (s.seqIs_issued q)

/-! ## NOP, HALT and NOTIFY (R145, R176, R178, R200) -/

section Notify

variable {s t : State} {q : Nat} {y : Seq}

theorem length_leBytes (n v : Nat) : (leBytes n v).length = n := by
  induction n generalizing v with
  | zero => rfl
  | succ n ih => simp [leBytes, ih]

/-- The notification record (R380). -/
def notifyRecord (q : Nat) (code : Word) (frame : Nat) (tl : Long) : List Byte :=
  [5, 2] ++ leBytes 1 q ++ [0] ++ leBytes 4 code.toNat ++ leBytes 8 frame ++ leBytes 8 tl.toNat ++ List.replicate 8 0

theorem length_notifyRecord (q : Nat) (code : Word) (frame : Nat) (tl : Long) :
    (notifyRecord q code frame tl).length = 32 := by
  simp [notifyRecord, length_leBytes]

/-- A record for which the staging buffer has room takes its place among the EVENT records (R380, R386). -/
theorem State.emit_event_of_room (hm : s.mode = .run) {r : List Byte} (hroom : s.stagedBytes + r.length ≤ 65536) :
    s.emit true r = { s with host := { s.host with event :=
      { s.host.event with recs := insertRec s.ticks r s.host.event.recs } } } := by
  have hstream : s.streaming = true := by rw [State.streaming, hm]
  simp [State.emit, hstream, State.emitRoom, hroom]

/-- A record is handed over whatever the sequencers hold, and leaves them as they are. -/
theorem State.emit_seqs (s : State) (l : Sparse Seq) (isEvent : Bool) (r : List Byte) :
    ({ s with seqs := l } : State).emit isEvent r = { s.emit isEvent r with seqs := l } := by
  have hstream : ({ s with seqs := l } : State).streaming = s.streaming := rfl
  have hroom : ({ s with seqs := l } : State).emitRoom r = s.emitRoom r := rfl
  simp only [State.emit, hstream, hroom]
  split
  · rfl
  · split
    · rfl
    · split <;> rfl

theorem State.seq_emit (s : State) (isEvent : Bool) (r : List Byte) (j : Nat) :
    (s.emit isEvent r).seq j = s.seq j := by
  have h := congrArg (State.seq · j) (s.emit_seqs s.seqs isEvent r)
  exact h

theorem State.seqIs_emit (h : s.seqIs t q y) (isEvent : Bool) (r : List Byte) :
    (s.emit isEvent r).seqIs (t.emit isEvent r) q y := by
  obtain ⟨hrest, hq, hother⟩ := h
  refine ⟨?_, by rw [State.seq_emit, hq], fun j hj => by rw [State.seq_emit, State.seq_emit, hother j hj]⟩
  rw [hrest, State.emit_seqs]

/-- A halt at issue keeps the PC and leaves everything else alone (R145). -/
theorem State.seqIs_halted_issued (s : State) (q : Nat) :
    s.seqIs ((s.issued q).haltSeq q) q { s.seq q with state := 0, wait := .none, ldsReg := none } :=
  State.seqIs_modSeq (s.seqIs_issued q) _

end Notify

section NotifyExec

variable {s : State} {q : Fin 128} (h : s.issues q [])
include h

theorem exec_halt_of_issues : exec (.halt q) s = .next ((s.issued q).haltSeq q) :=
  congrArg Host.Outcome.next (State.issue_eq_issued h _)

/-- An opcode that the map does not list halts as HALT does (R176). -/
theorem exec_undefinedOpcode_of_issues : exec (.undefinedOpcode q) s = .next ((s.issued q).haltSeq q) :=
  congrArg Host.Outcome.next (State.issue_eq_issued h _)

theorem exec_nop_of_issues : exec (.nop q) s = .next ((s.issued q).goNext q) :=
  congrArg Host.Outcome.next (State.issue_eq_issued h _)

/-- A NOTIFY that comes long enough after the last hands its record over (R200). -/
theorem exec_notify_emits (hlast : ∀ f, (s.seq q).lastNotify = some f → f + 8192 ≤ s.ticks) (code : Word) :
    exec (.notify q code) s = .next ((((s.issued q).emit true (notifyRecord q code s.frame (s.seq q).tl)).modSeq q
      (fun x => { x with lastNotify := some s.ticks })).goNext q) := by
  change execNotify q code s = _
  rw [execNotify, State.issue_eq_issued h, State.seq_issued]
  cases hl : (s.seq q).lastNotify with
  | none => simp only [hl]; rfl
  | some f =>
    simp only [hl]
    exact congrArg _ (if_neg (mt of_decide_eq_true (Nat.not_lt.mpr (hlast f hl))))

/-- A NOTIFY that comes too early waits at its word (R200). -/
theorem exec_notify_stalls {f : Nat} (hlast : (s.seq q).lastNotify = some f) (hearly : s.ticks < f + 8192)
    (code : Word) :
    exec (.notify q code) s = .next ((s.issued q).modSeq q (fun x =>
      { x with nextIssue := s.frame + (x.lastNotify.getD 0 + 8192 - s.ticks) })) := by
  change execNotify q code s = _
  rw [execNotify, State.issue_eq_issued h, State.seq_issued]
  simp only [hlast]
  exact congrArg _ (if_pos (decide_eq_true hearly))

end NotifyExec

/-- Settles O4: NOP goes on, HALT and an unlisted opcode halt, and NOTIFY is a record beside a change of its sequencer,
or a wait. -/
theorem tarfigerHaltAndNotify : Obligations.TarfigerHaltAndNotify := by
  unfold Obligations.TarfigerHaltAndNotify
  intro s q code h x record
  have hissued := s.seqIs_issued q
  have hhalted := s.seqIs_halted_issued q
  refine ⟨⟨_, exec_nop_of_issues h, State.seqIs_goNext hissued⟩, ⟨_, exec_halt_of_issues h, hhalted⟩,
    ⟨_, exec_undefinedOpcode_of_issues h, hhalted⟩, fun hlast hroom => ⟨_, exec_notify_emits h hlast code, ?_⟩,
    fun f hlast hearly => ⟨_, exec_notify_stalls h hlast hearly code, ?_⟩⟩
  · obtain ⟨hmode, -⟩ := h
    have hlen : record.length = 32 := length_notifyRecord q code s.frame x.tl
    have hdone := State.seqIs_goNext (State.seqIs_modSeq (State.seqIs_emit hissued true record)
      (fun x => { x with lastNotify := some s.ticks }))
    rw [State.emit_event_of_room hmode (by rwa [hlen])] at hdone
    exact hdone
  · have hstall := State.seqIs_modSeq hissued
      (fun x => { x with nextIssue := s.frame + (x.lastNotify.getD 0 + 8192 - s.ticks) })
    have hf : x.lastNotify.getD 0 = f := by rw [hlast]; rfl
    rw [← hf]
    exact hstall

end Sys2Proof.Machine
end
